-- ==== Sys2Proof/Word.lean ====
section
/-! DEFINITION. The two word types of the block: a byte and a logic level (00_scope.md section 5.1). -/

namespace Sys2Proof

/-- A byte: 8 bits, bit 0 least significant (00_scope.md section 5.1). -/
abbrev Byte := BitVec 8

/-- A logic level: `false` is 0 (low), `true` is 1 (high) (00_scope.md section 5.1). -/
abbrev Level := Bool

end Sys2Proof
end

