-- ==== Sys2Proof/Config.lean ====
section
/-! DEFINITION. The block's parameters (00_scope.md R6, 10_state.md R40, 92_eei_decisions.md) and its free values
(93_implementation_defined.md U2, U3, U6, U14), which are opaque constants without a body. -/

namespace Sys2Proof.Config

/-! ## Polls and time constants (00_scope.md R6; log 20) -/

/-- `WAIT_CEILING` (R6, 40_line_transport.md R104). -/
def waitCeiling : Nat := 1000000
/-- `MAX_SAMPLES` = `WAIT_CEILING + 1` (R6, D4). -/
def maxSamples : Nat := waitCeiling + 1
/-- `T_POLL`, microseconds: the pause between two polls of a wait (R6, 40_line_transport.md R104). -/
def tPoll : Nat := 1
/-- `T_IDLE_SETTLE`, microseconds (R6, 41_byte_transport.md R112). -/
def tIdleSettle : Nat := 300
/-- `T_CLK_HOLD`, microseconds (R6, R112). -/
def tClkHold : Nat := 200
/-- `T_BIT_SETTLE`, microseconds (R6, R112). -/
def tBitSettle : Nat := 10
/-- `T_STOP_SETTLE`, microseconds (R6, R112). -/
def tStopSettle : Nat := 50
/-- `T_RX_SETTLE`, microseconds (R6, 41_byte_transport.md R117, D5). -/
def tRxSettle : Nat := 10

/-! ## Lengths and widths (00_scope.md R6) -/

/-- `N_TX_SLOTS`: iterations of the send bit loop (R6, 41_byte_transport.md R114). -/
def nTxSlots : Nat := 10
/-- `N_RX_SLOTS`: slots of a received frame (R6, 30_encoding.md R70). -/
def nRxSlots : Nat := 11
/-- `N_REPORT_FETCHED`: report bytes `update` reads (R6, 42_device_session.md R138). -/
def nReportFetched : Nat := 3
/-- `N_REPORT_NOMINAL`: report bytes the decode refers to, the registers of `Report` (R6, 10_state.md R30). -/
def nReportNominal : Nat := 4
/-- `INIT_LEN`: length of the initialisation list (R6, 42_device_session.md R131). -/
def initLen : Nat := 7
/-- `RESULT_W`: width of the result port (R6, D15). -/
abbrev resultW : Nat := 16
/-- `MOVE_W`: width of the motion ports (R6, D15). -/
abbrev moveW : Nat := 16
/-- `COUNT_W`: width of the poll counter (R6, D15; the model's `count` is a Nat, log 18). -/
def countW : Nat := 20

/-! ## Command bytes and the response code (30_encoding.md R85, 43_commands.md) -/

/-- 43_commands.md R150. -/
def cmdReset : Byte := 0xFF
/-- 43_commands.md R155. -/
def cmdResend : Byte := 0xFE
/-- 43_commands.md R151. -/
def cmdSetDefaults : Byte := 0xF6
/-- 43_commands.md R156. -/
def cmdDisableDataReporting : Byte := 0xF5
/-- 43_commands.md R157. -/
def cmdEnableDataReporting : Byte := 0xF4
/-- 43_commands.md R158. -/
def cmdSetSampleRate : Byte := 0xF3
/-- 43_commands.md R159. -/
def cmdGetDeviceId : Byte := 0xF2
/-- 43_commands.md R152. -/
def cmdSetRemoteMode : Byte := 0xF0
/-- 43_commands.md R160. -/
def cmdSetWrapMode : Byte := 0xEE
/-- 43_commands.md R161. -/
def cmdResetWrapMode : Byte := 0xEC
/-- 43_commands.md R154. -/
def cmdReadData : Byte := 0xEB
/-- 43_commands.md R162. -/
def cmdSetStreamMode : Byte := 0xEA
/-- 43_commands.md R153. -/
def cmdStatusRequest : Byte := 0xE9
/-- 43_commands.md R163. -/
def cmdSetResolution : Byte := 0xE8
/-- `ACK_CODE` (43_commands.md R164). -/
def ackCode : Byte := 0xFA

/-! ## Payload lengths and the initialisation list (42_device_session.md R131, R133; D13) -/

/-- Payload bytes read after `RESET` (R133, 43_commands.md R150). -/
def payloadReset : Nat := 2
/-- Payload bytes read after `STATUS_REQUEST` (R133, 43_commands.md R153). -/
def payloadStatusRequest : Nat := 3
/-- Payload bytes read after `SET_DEFAULTS` (R133, D13). -/
def payloadSetDefaults : Nat := 0
/-- Payload bytes read after `SET_REMOTE_MODE` (R133, D13). -/
def payloadSetRemoteMode : Nat := 0
/-- Payload bytes read after `READ_DATA` (R133, 43_commands.md R154). -/
def payloadReadData : Nat := 3

/-- `INIT[0..6]` (42_device_session.md R131, 10_state.md R40). -/
def initCommands : List Byte :=
  [cmdReset, cmdStatusRequest, cmdSetDefaults, cmdStatusRequest, cmdSetRemoteMode, cmdStatusRequest, cmdReadData]

/-- `PAYLOAD[0..6]` (42_device_session.md R133, 10_state.md R40). -/
def initPayloads : List Nat :=
  [payloadReset, payloadStatusRequest, payloadSetDefaults, payloadStatusRequest, payloadSetRemoteMode,
    payloadStatusRequest, payloadReadData]

/-! ## Flag positions of report byte 1 (30_encoding.md R76, D10; PRESUMED there from the standard packet, log 19) -/

/-- `BTN_L` (R76). -/
def btnL : Nat := 0
/-- `BTN_R` (R76). -/
def btnR : Nat := 1
/-- `BTN_C` (R76). -/
def btnC : Nat := 2
/-- `SIGN_X` (R76). -/
def signX : Nat := 4
/-- `SIGN_Y` (R76). -/
def signY : Nat := 5

/-! ## Result codes (60_exceptions.md R170; numbers by D7, D8, D24) -/

/-- `TX_OK` (R170). -/
def txOk : Int := 0
/-- `TX_ERR_CLK_FALL` (R170). -/
def txErrClkFall : Int := -1
/-- `TX_ERR_ACK` (R170). -/
def txErrAck : Int := -2
/-- `TX_ERR_END_CLK` (R170). -/
def txErrEndClk : Int := -3
/-- `TX_ERR_BIT_HIGH(i)` (R170). -/
def txErrBitHigh (i : Nat) : Int := -(10 + 2 * (i : Int))
/-- `TX_ERR_BIT_LOW(i)` (R170). -/
def txErrBitLow (i : Nat) : Int := -(11 + 2 * (i : Int))
/-- `RX_ERR_START` (R170). -/
def rxErrStart : Int := -4
/-- `RX_ERR_PARITY` (R170). -/
def rxErrParity : Int := -5
/-- `RX_ERR_STOP` (R170). -/
def rxErrStop : Int := -6
/-- `RX_ERR_CLK_LOW(i)` (R170). -/
def rxErrClkLow (i : Nat) : Int := -(40 + 2 * (i : Int))
/-- `RX_ERR_CLK_HIGH(i)` (R170). -/
def rxErrClkHigh (i : Nat) : Int := -(41 + 2 * (i : Int))
/-- `WRA_ERR_SEND` (R170). -/
def wraErrSend : Int := -100
/-- `WRA_ERR_RECV` (R170). -/
def wraErrRecv : Int := -101

/-! ## Free values: no body, so no proof can see one (logs 5, 6, 7) -/

/-- The open function `zdec` of 42_device_session.md R141 with the draw it takes part in (U2, U14, D11): what
`ev.moveZ` becomes at the draw of this number, given the byte `rep[3]`. -/
opaque zdec : Nat → Byte → BitVec moveW

/-- What a report byte register holds after its read failed, at the draw of this number (R138, U3, D12). -/
opaque staleByte : Nat → Byte

/-- What a sample returns of a line the host drives to 1 while the device pulls it low, at the draw of this number
(10_state.md R22, U6, D3). -/
opaque contention : Nat → Level

end Sys2Proof.Config
end

