-- ==== Sys2Proof/Machine/Flags.lean ====
section
/-! DEFINITION. Every flag and value computation of the block over plain data: parity, the check of a received slot, the
report's buttons and motion values, the frames (30_encoding.md sections 1, 2 and 7; 41_byte_transport.md R119, R124). -/

namespace Sys2Proof.Machine

/-- Bit `i` of a byte, the notation `b[i]` (00_scope.md section 5.1). -/
def bitOf (b : Byte) (i : Nat) : Level := b.getLsbD i

/-- `popcount(b)` (00_scope.md section 5.1). -/
def popcount (b : Byte) : Nat :=
  (bitOf b 0).toNat + (bitOf b 1).toNat + (bitOf b 2).toNat + (bitOf b 3).toNat +
    (bitOf b 4).toNat + (bitOf b 5).toNat + (bitOf b 6).toNat + (bitOf b 7).toNat

/-- `parity(b)`, the odd-parity bit: 1 xor b[0] xor ... xor b[7] (30_encoding.md R72). -/
def oddParity (b : Byte) : Level :=
  true ^^ bitOf b 0 ^^ bitOf b 1 ^^ bitOf b 2 ^^ bitOf b 3 ^^ bitOf b 4 ^^ bitOf b 5 ^^ bitOf b 6 ^^ bitOf b 7

/-- The receiver's parity test: a parity slot of 0 needs an odd count of ones, a 1 an even count (R72, R119). -/
def parityAccepts (d : Level) (ones : Nat) : Bool :=
  if d then ones % 2 == 0 else ones % 2 == 1

/-- `acc[n] <- 1` (41_byte_transport.md R117). -/
def setBit (acc : Byte) (n : Nat) : Byte := acc ||| (1#8 <<< n)

/-- What the receive does with the bit `d` sampled at slot `i`: the new `acc` and `ones`, or the code of the abort
(41_byte_transport.md R119). -/
def slotVerdict (i : Nat) (d : Level) (acc : Byte) (ones : Nat) : Except Int (Byte × Nat) :=
  if i = 0 then
    if d then .error Config.rxErrStart else .ok (acc, ones)
  else if i ≤ 8 then
    if d then .ok (setBit acc (i - 1), ones + 1) else .ok (acc, ones)
  else if i = 9 then
    if parityAccepts d ones then .ok (acc, ones) else .error Config.rxErrParity
  else
    if d then .ok (acc, ones) else .error Config.rxErrStop

/-- `r & 0xFF` of a result (30_encoding.md R83). -/
def maskByte (r : Int) : Int := r % 256

/-- Whether a result of `writeAndReadAck` is `ACK_CODE`; the test is on the whole result (42_device_session.md R132). -/
def isAck (r : Int) : Bool := r == (Config.ackCode.toNat : Int)

/-- A motion value: the magnitude as an unsigned byte, less 256 when the sign flag is set (R82, R140). -/
def motion (flags : Byte) (sign : Nat) (magnitude : Byte) : Int :=
  if bitOf flags sign then (magnitude.toNat : Int) - 256 else (magnitude.toNat : Int)

/-! ## Frames as lists of slots, slot 0 first -/

/-- The 11 slots with these contents (30_encoding.md R70). -/
def frameSlots (start : Level) (data : Byte) (parity stop : Level) : List Level :=
  [start, bitOf data 0, bitOf data 1, bitOf data 2, bitOf data 3, bitOf data 4, bitOf data 5, bitOf data 6,
    bitOf data 7, parity, stop]

/-- `txFrame(b)`: slots 0 to 10 that a send of `b` puts on the data line; the device-to-host frame of `b`
(41_byte_transport.md R124, 30_encoding.md R71). -/
def txFrame (b : Byte) : List Level := frameSlots false b (oddParity b) true

/-- `rxDecode(F)`: what a receive makes of a frame when every wait succeeds (41_byte_transport.md R124). -/
def rxDecode (start : Level) (data : Byte) (parity stop : Level) : Int :=
  if start then Config.rxErrStart
  else if parity ≠ oddParity data then Config.rxErrParity
  else if stop then (data.toNat : Int) else Config.rxErrStop

/-- A device-to-host frame the block accepts: start 0, stop 1, parity right (30_encoding.md R70, R87). -/
def validFrame (start : Level) (data : Byte) (parity stop : Level) : Bool :=
  !start && stop && (parity == oddParity data)

end Sys2Proof.Machine
end

