-- ==== Sys2Proof/Syntax.lean ====
section
/-! DEFINITION. The 37 rows of spec/opcode_table.json as one inductive, and the words they are read from. -/

namespace Sys2Proof

/-- The two lines; as an operand `CLOCK` = 0, `DATA` = 1 (30_encoding.md R86, 00_scope.md section 5.2). -/
inductive Line where
  | clock
  | data
  deriving DecidableEq, Repr

/-- The column "format" of spec/opcode_table.json: which of the block's encodings a word is written in
(30_encoding.md R84). -/
inductive Format where
  /-- `op_sel`: a request, bits 3..0 the operation-select code (30_encoding.md R86, D1). -/
  | opSel
  /-- `command_byte` (30_encoding.md R73). -/
  | commandByte
  /-- `response_byte` (30_encoding.md R74). -/
  | responseByte
  /-- `wire_frame_11`, device to host (30_encoding.md R70). -/
  | wireFrame11
  /-- `wire_frame_12`, host to device (30_encoding.md R71). -/
  | wireFrame12
  /-- `report_byte_1` (30_encoding.md R76). -/
  | reportByte1
  /-- `report_byte_2` (30_encoding.md R82). -/
  | reportByte2
  /-- `report_byte_3` (30_encoding.md R82). -/
  | reportByte3
  /-- `report_byte_4` (30_encoding.md R77). -/
  | reportByte4
  deriving DecidableEq, Repr

/-- A word to decode: its format and its bits, numbered as spec/opcode_table.json numbers them (bit 0 the least
significant bit of the first byte; three bytes hold the longest, a `DELAY` with its operand). The format stands beside
the bits because the spec gives the formats no common code: a frame and a request may have the same bits
(DESIGN CHOICE, log 14). -/
structure RawWord where
  format : Format
  bits : BitVec 24
  deriving DecidableEq, Repr

/-- Why a word is no instruction. -/
inductive DecodeError where
  /-- Bits above the format's width, or bits 7..4 of a request, are not 0. -/
  | highBits
  /-- Operand bits that an internal operation does not have are not 0 (log 13). -/
  | operandBits
  /-- A command byte outside the closed enumeration of 30_encoding.md R85. -/
  | unknownCommand
  /-- A response byte other than 0xFA: the block gives it no meaning (30_encoding.md R74, R90). -/
  | unknownResponse
  /-- A 12-slot frame whose start is not 0, whose stop is not 1, or whose parity slot is not the odd parity of its data:
  no host-to-device transfer has it (30_encoding.md R71, 41_byte_transport.md R111, R114). -/
  | frameNeverSent
  deriving DecidableEq, Repr

/-- One constructor per row of spec/opcode_table.json. -/
inductive Instr where
  -- command bytes (30_encoding.md R85)
  /-- `RESET` 0xFF (43_commands.md R150). -/
  | cmdReset
  /-- `RESEND` 0xFE (R155). -/
  | cmdResend
  /-- `SET_DEFAULTS` 0xF6 (R151). -/
  | cmdSetDefaults
  /-- `DISABLE_DATA_REPORTING` 0xF5 (R156). -/
  | cmdDisableDataReporting
  /-- `ENABLE_DATA_REPORTING` 0xF4 (R157). -/
  | cmdEnableDataReporting
  /-- `SET_SAMPLE_RATE` 0xF3 (R158). -/
  | cmdSetSampleRate
  /-- `GET_DEVICE_ID` 0xF2 (R159). -/
  | cmdGetDeviceId
  /-- `SET_REMOTE_MODE` 0xF0 (R152). -/
  | cmdSetRemoteMode
  /-- `SET_WRAP_MODE` 0xEE (R160). -/
  | cmdSetWrapMode
  /-- `RESET_WRAP_MODE` 0xEC (R161). -/
  | cmdResetWrapMode
  /-- `READ_DATA` 0xEB (R154). -/
  | cmdReadData
  /-- `SET_STREAM_MODE` 0xEA (R162). -/
  | cmdSetStreamMode
  /-- `STATUS_REQUEST` 0xE9 (R153). -/
  | cmdStatusRequest
  /-- `SET_RESOLUTION` 0xE8 (R163). -/
  | cmdSetResolution
  -- the response byte
  /-- `ACK` 0xFA (43_commands.md R164). -/
  | rspAck
  -- wire frames
  /-- `FRAME_D2H`: the 11 slots of a device-to-host frame; any slots, a frame the block rejects included
  (30_encoding.md R70, R87). -/
  | frameD2H (start : Level) (data : Byte) (parity stop : Level)
  /-- `FRAME_H2D`: a host-to-device transfer of a byte and the level of the ack slot; start, parity and stop are decided
  by the byte (30_encoding.md R71, R88). -/
  | frameH2D (data : Byte) (ack : Level)
  -- report bytes
  /-- `REPORT_FLAGS` (30_encoding.md R76). -/
  | reportFlags (b : Byte)
  /-- `REPORT_X` (42_device_session.md R140). -/
  | reportX (b : Byte)
  /-- `REPORT_Y` (R140). -/
  | reportY (b : Byte)
  /-- `REPORT_Z` (R141). -/
  | reportZ (b : Byte)
  -- operations (30_encoding.md R86)
  /-- `BEGIN` 0x1 (42_device_session.md R135). -/
  | opBegin
  /-- `UPDATE` 0x2 (R143). -/
  | opUpdate
  /-- `SETRES` 0x3 (R145). -/
  | opSetRes (arg : Byte)
  /-- `SETRATE` 0x4 (R146). -/
  | opSetRate (arg : Byte)
  /-- `DELAY n` 0x5, n in microseconds (40_line_transport.md R103). -/
  | opDelay (n : Nat)
  /-- `SEND b` 0x8 (41_byte_transport.md R110). -/
  | opSend (b : Byte)
  /-- `RECV` 0x9 (R117). -/
  | opRecv
  /-- `WRA b` 0xA (R121). -/
  | opWra (b : Byte)
  /-- `READ` 0xB (R122). -/
  | opRead
  /-- `RELEASE line` 0xC (40_line_transport.md R100). -/
  | opRelease (line : Line)
  /-- `DRIVE line, level` 0xD (R101). -/
  | opDrive (line : Line) (level : Level)
  /-- `RDLVL line` 0xE (R102). -/
  | opRdlvl (line : Line)
  /-- `WAIT line, level` 0xF (R104). -/
  | opWait (line : Line) (level : Level)
  /-- `RESERVED_0` (30_encoding.md R91). -/
  | reserved0
  /-- `RESERVED_6` (R91). -/
  | reserved6
  /-- `RESERVED_7` (R91). -/
  | reserved7
  deriving DecidableEq, Repr

end Sys2Proof
end

