-- ==== Sys2Proof/Machine/State.lean ====
section
/-! DEFINITION. The state of the block as plain data, its control points, what arrives from outside, the reasons to stop,
and the state after reset (10_state.md, 70_reset_and_hazards.md section 1). -/

namespace Sys2Proof.Machine

/-! ## Lines -/

/-- `mode[line]` (10_state.md R20). -/
inductive LineMode where
  | released
  | driven
  deriving DecidableEq, Repr

/-- The two host-side registers of a line: `mode` (R20) and `out` (R21). -/
structure Pin where
  mode : LineMode
  out : Level
  deriving DecidableEq, Repr

/-- What the device does at the instant of one sample: whether it pulls `CLOCK` low, whether it pulls `DATA` low
(10_state.md R22). An input from the environment, free at every instant. -/
structure Pulls where
  clock : Bool
  data : Bool
  deriving DecidableEq, Repr

/-- A primitive event, as in the traces of 00_scope.md section 5.2 (`R(l)`, `D(l,v)`, `S(l)=v`, `T(n)`, `W(l,v)+`,
`W(l,v)-`). A wait is one event with its outcome, the number of samples it took and the microseconds it paused between
them (R104); its polls are not listed one by one (log 4). -/
inductive Event where
  | release (line : Line)
  | drive (line : Line) (level : Level)
  | sample (line : Line) (level : Level)
  | delay (n : Nat)
  | wait (line : Line) (level : Level) (ok : Bool) (samples paused : Nat)
  deriving DecidableEq, Repr

/-! ## The report and the event -/

/-- `rep[0..3]` (10_state.md R30). -/
structure Report where
  b0 : Byte
  b1 : Byte
  b2 : Byte
  b3 : Byte
  deriving DecidableEq, Repr

/-- The `MouseEvent` snapshot `ev` (10_state.md R31, 30_encoding.md R78). -/
structure MouseEvent where
  btnLeft : Bool
  btnCenter : Bool
  btnRight : Bool
  moveX : Int
  moveY : Int
  moveZ : Int
  deriving DecidableEq, Repr

/-! ## Control state -/

/-- The control points of 10_state.md R34 to R38, each with the arguments of its operation. -/
inductive Point where
  -- `waitForLevel(line, v)` (R34)
  | w0 (line : Line) (v : Level)
  | w1 (line : Line) (v : Level)
  | w2 (line : Line) (v : Level)
  -- `sendByte(b)` (R35)
  | s0 (b : Byte)
  | s1
  | s2
  | s3
  | s4
  | s5
  | s6
  | s7
  | s8
  | s9
  | s10
  | s11
  | s12
  | s13
  | s14
  -- `receiveByte()` (R36)
  | v0
  | v1
  | v2
  | v3
  | v4
  | v5
  | v6
  -- `writeAndReadAck(b)` and `read()` (R37)
  | a0 (b : Byte)
  | a1
  | d0
  -- `begin()` (R38)
  | b0
  | b1
  | b2
  | b3
  | b4
  -- `update()` (R38)
  | u0
  | u1
  | u2
  deriving DecidableEq, Repr

/-- The control state as a call stack (10_state.md R33), innermost operation first, and the value the operation that has
just ended hands to the one below it. A point that calls another operation stays on the stack below it and takes the
returned value. -/
structure Control where
  stack : List Point
  ret : Option Int
  deriving DecidableEq, Repr

/-- No operation active (10_state.md R44). -/
def Control.idle : Control := ⟨[], none⟩

/-! ## What arrives from outside at a step (92_eei_decisions.md D1) -/

/-- One arrival. -/
inductive Input where
  /-- Nothing arrives at this step. -/
  | pass
  /-- `rst` is asserted (70_reset_and_hazards.md R200, R201). -/
  | reset
  /-- The caller calls the operation of `op_sel` with `op_arg` and is blocked until it returns (R208): the whole
  operation is this one step. -/
  | call (sel : BitVec 4) (arg : Byte)
  /-- The caller pulses `op_start`: the operation begins at its first control point and the steps that follow take it
  from point to point (10_state.md R33 to R38). -/
  | start (sel : BitVec 4) (arg : Byte)
  /-- A higher layer issues an operation or a command byte (30_encoding.md R84): the whole of it is this one step
  (logs 8, 12). -/
  | issue (w : RawWord)
  /-- The caller asks for the byte operation that carries this frame, response or report byte, and is blocked until it
  returns (R208); the device carries out exactly this item (30_encoding.md R84; log 9). -/
  | transfer (w : RawWord)
  /-- The device shows a frame, a response or a report byte of its own accord, no operation having been asked for: it is
  not received (60_exceptions.md R174, R192; log 9). -/
  | shown (w : RawWord)
  deriving DecidableEq, Repr

/-! ## Reasons to stop -/

/-- There is none: "No behaviour of the block is treated as `fault` or `stuck`: the block has no trap and every operation
terminates" (93_implementation_defined.md section 1). -/
inductive Fault where
  deriving DecidableEq, Repr

/-- Why an instruction or a request is given no meaning. -/
inductive Refusal where
  /-- Raised by `exec` for an instruction without a meaning (there is none); safe. -/
  | notModelled (mnemonic : String)
  /-- Raised by the meanings of `RESERVED_0`, `RESERVED_6`, `RESERVED_7`: "A caller presenting any of them starts nothing;
  a model refuses the request" (30_encoding.md R91); safe. -/
  | reservedCode (code : BitVec 4)
  /-- Raised when a caller presents the code of an internal operation (R91); safe. -/
  | internalCode (code : BitVec 4)
  /-- Raised when a request arrives while an operation is active: "it refuses to start an operation while another is
  active" (20_memory.md R62, 70_reset_and_hazards.md R207); safe. -/
  | busy
  /-- Raised when a word arrives as the wrong kind of request: an item of the wire as an issued operation, or an
  operation as a transfer; safe. -/
  | wrongKind
  /-- Raised when the word that arrives is no row's encoding; safe. -/
  | undecodable (e : DecodeError)
  deriving DecidableEq, Repr

/-! ## The state -/

/-- Everything the spec gives the block, then the environment it meets (INVENTORY.md, State). -/
structure State where
  /-- `mode[CLOCK]`, `out[CLOCK]` (R20, R21). -/
  clock : Pin
  /-- `mode[DATA]`, `out[DATA]` (R20, R21). -/
  data : Pin
  /-- `txb`, 8 bits (R24). -/
  txb : Byte
  /-- `i`, 4 bits (R25). -/
  i : Nat
  /-- `par`, 1 bit (R26). -/
  par : Level
  /-- `acc`, 8 bits (R27). -/
  acc : Byte
  /-- `ones`, 4 bits (R28). -/
  ones : Nat
  /-- `count`, 20 bits (R29). -/
  count : Nat
  /-- `rep[0..3]`, 8 bits each (R30). -/
  rep : Report
  /-- `ev` (R31). -/
  ev : MouseEvent
  /-- `result`, signed 16 bits: what the caller's operation returned (R32; log 17). -/
  result : Int
  /-- Whether the caller's last operation has returned a value: whether `op_result` is valid (R79, R173, D18; log 25). -/
  valued : Bool
  /-- `seq`, 3 bits (R38). -/
  seq : Nat
  /-- `k`, 2 bits (R38). -/
  k : Nat
  /-- The control state (R33). -/
  ctl : Control
  /-- `op_done`: the last operation has ended (92_eei_decisions.md D1, D18; log 21). -/
  done : Bool
  /-- What the device does, one entry for each sample the block will take; after the last entry it pulls nothing: no
  device (95_test_vectors.md section 1; log 2). -/
  device : List Pulls
  /-- What arrives at the next steps, first first (log 15). -/
  inbox : List Input
  /-- The primitive events of the operation, first first (20_memory.md R60; log 4). -/
  trace : List Event
  /-- How many free values have been drawn: the model's own counter (log 5). -/
  draws : Nat
  deriving DecidableEq, Repr

/-- The state after reset (10_state.md R44, 42_device_session.md R130, 70_reset_and_hazards.md R200): both lines released,
no operation active. The other registers are unspecified there and hold the values of log 1; no device, no request. -/
def State.reset : State where
  clock := ⟨.released, true⟩
  data := ⟨.released, true⟩
  txb := 0
  i := 0
  par := false
  acc := 0
  ones := 0
  count := 0
  rep := ⟨0, 0, 0, 0⟩
  ev := ⟨false, false, false, 0, 0, 0⟩
  result := 0
  valued := false
  seq := 0
  k := 0
  ctl := .idle
  done := false
  device := []
  inbox := []
  trace := []
  draws := 0

end Sys2Proof.Machine
end

