-- ==== Sys2Proof/Machine/Operands.lean ====
section
/-! DEFINITION. The operand forms: a line (30_encoding.md R86), an entry of the initialisation list (10_state.md R40), a
report byte register (R30). -/

namespace Sys2Proof.Machine

/-- The registers of a line. -/
def readPin (l : Line) (s : State) : Pin :=
  match l with
  | .clock => s.clock
  | .data => s.data

/-- Writes the registers of a line. -/
def setPin (l : Line) (p : Pin) (s : State) : State :=
  match l with
  | .clock => { s with clock := p }
  | .data => { s with data := p }

/-- Whether the device pulls a line at an instant. -/
def pulledOf (l : Line) (p : Pulls) : Bool :=
  match l with
  | .clock => p.clock
  | .data => p.data

/-- `INIT[seq]` (10_state.md R40, 42_device_session.md R131). -/
def initAt (n : Nat) : Byte := Config.initCommands.getD n 0

/-- `PAYLOAD[seq]` (10_state.md R40, 42_device_session.md R133). -/
def payloadAt (n : Nat) : Nat := Config.initPayloads.getD n 0

/-- Writes `rep[n]` for n = 0, 1, 2; `rep[3]` is written by no rule (10_state.md R30). -/
def setRep (n : Nat) (b : Byte) (r : Report) : Report :=
  match n with
  | 0 => { r with b0 := b }
  | 1 => { r with b1 := b }
  | 2 => { r with b2 := b }
  | _ => r

end Sys2Proof.Machine
end

