-- ==== Sys2Proof/Machine/Ops.lean ====
section
/-! DEFINITION. The shared operations: the four primitives and the bounded wait (40_line_transport.md), the end of an
operation, and the abort (60_exceptions.md section 4), which is what an exception is on this block. -/

namespace Sys2Proof.Machine

/-! ## Primitives (40_line_transport.md R100 to R103) -/

/-- Records an event in the trace of the operation (20_memory.md R60). -/
def emit (e : Event) (s : State) : State := { s with trace := s.trace ++ [e] }

/-- `Release(line)` (R100). -/
def releaseLine (l : Line) (s : State) : State := emit (.release l) (setPin l ⟨.released, true⟩ s)

/-- `Drive(line, v)` (R101). -/
def driveLine (l : Line) (v : Level) (s : State) : State := emit (.drive l v) (setPin l ⟨.driven, v⟩ s)

/-- `Delay(n)`: no state of the block changes (R103). -/
def delayFor (n : Nat) (s : State) : State := emit (.delay n) s

/-- The host drives the line to 1 while the device pulls it low (93_implementation_defined.md U6). -/
def contended (p : Pin) (pulled : Bool) : Bool := p.mode == .driven && p.out && pulled

/-- `level(line)` (10_state.md R22); under contention it is any value (U6, D3), the free value of draw number `n`. -/
def levelOf (p : Pin) (pulled : Bool) (n : Nat) : Level :=
  match p.mode with
  | .released => !pulled
  | .driven => if p.out && pulled then Config.contention n else p.out

/-- What the device does at the next sample. -/
def nextPulls (s : State) : Pulls := s.device.headD ⟨false, false⟩

/-- The level of a line now, and the state after the instant at which it was read: the device's next entry has passed,
and a draw if the line was contended. Nothing of the block changes (40_line_transport.md R102, 20_memory.md R58). -/
def look (l : Line) (s : State) : Level × State :=
  let pulled := pulledOf l (nextPulls s)
  (levelOf (readPin l s) pulled s.draws,
    { s with
      device := s.device.tail
      draws := if contended (readPin l s) pulled then s.draws + 1 else s.draws })

/-- `Sample(line)` (R102). -/
def sampleLine (l : Line) (s : State) : Level × State :=
  let r := look l s
  (r.1, emit (.sample l r.1) r.2)

/-! ## The bounded wait (R104) -/

/-- The loop of `waitForLevel` from a state whose `count` is the number of samples already taken in vain, over the
device's remaining entries. Where they run out nothing changes any more from sample to sample: the level is the expected
one at once, or `count` runs up to the first value above the budget. -/
def pollFrom (l : Line) (v : Level) (budget : Nat) : List Pulls → State → Bool × State
  | [], s =>
    if levelOf (readPin l s) false s.draws = v then (true, s)
    else (false, { s with count := budget + 1 })
  | _ :: rest, s =>
    let r := look l s
    if r.1 = v then (true, r.2)
    else
      let t := { r.2 with count := r.2.count + 1 }
      if t.count > budget then (false, t) else pollFrom l v budget rest t

/-- The samples a wait has taken, from its outcome and its final `count`. -/
def samplesTaken (ok : Bool) (count : Nat) : Nat := if ok then count + 1 else count

/-- The microseconds a wait has paused: `Delay(T_POLL)` between two samples (R104). -/
def pollPause (samples : Nat) : Nat := (samples - 1) * Config.tPoll

/-- The event of a wait that has ended. -/
def waitEvent (l : Line) (v : Level) (ok : Bool) (count : Nat) : Event :=
  .wait l v ok (samplesTaken ok count) (pollPause (samplesTaken ok count))

/-- `waitForLevel(line, v, budget)` (R104). -/
def waitForLevel (l : Line) (v : Level) (budget : Nat) (s : State) : Bool × State :=
  let r := pollFrom l v budget s.device { s with count := 0 }
  (r.1, emit (waitEvent l v r.1 r.2.count) r.2)

/-! ## How an operation goes on and how it ends -/

/-- A byte operation in progress: it goes on, or a failed test aborts it with a code. -/
inductive Progress where
  | going (s : State)
  | aborted (code : Int) (s : State)
  deriving DecidableEq, Repr

/-- The next part of an operation, performed only if nothing has aborted it (60_exceptions.md R175, R185). -/
def Progress.andThen (p : Progress) (f : State → Progress) : Progress :=
  match p with
  | .going s => f s
  | .aborted code s => .aborted code s

/-- A wait of a byte operation: on failure the operation aborts with the code of the call site (40_line_transport.md R106,
60_exceptions.md R188). -/
def waitOr (l : Line) (v : Level) (code : Int) (s : State) : Progress :=
  let r := waitForLevel l v Config.waitCeiling s
  if r.1 then .going r.2 else .aborted code r.2

/-- `abort CODE`: no further event, every line and register as it is, the code returned to the operation that called
(60_exceptions.md R185, 00_scope.md section 5.3). -/
def abortWith (code : Int) (s : State) : Int × State := (code, s)

/-- What a byte operation returns: on success a value read off the state, else the abort's code. -/
def Progress.toResult (p : Progress) (value : State → Int) : Int × State :=
  match p with
  | .going s => (value s, s)
  | .aborted code s => abortWith code s

/-- The caller's operation has returned a value: it stands in `result` (10_state.md R32; log 17). An inner operation hands
its value to the operation that called it and leaves `result` alone. -/
def finish (value : Int) (s : State) : State := { s with result := value, valued := true }

/-- The outcome of a caller's operation that returns a value. -/
def answer (r : Int × State) : Host.Outcome State Fault Refusal := .next (finish r.1 r.2)

end Sys2Proof.Machine
end

