-- ==== Sys2Proof/Machine/ByteTransport.lean ====
section
/-! DEFINITION. The byte transport: `sendByte`, `receiveByte`, `writeAndReadAck`, `read` (41_byte_transport.md), and the
meanings of `SEND`, `RECV`, `WRA`, `READ`. -/

namespace Sys2Proof.Machine

/-! ## sendByte (R110 to R116) -/

/-- State 1, request-to-send (R111, R112). -/
def requestToSend (b : Byte) (s : State) : State :=
  let s := releaseLine .data { s with txb := b }
  let s := delayFor Config.tIdleSettle (releaseLine .clock s)
  let s := delayFor Config.tClkHold (driveLine .clock false s)
  let s := delayFor Config.tBitSettle (driveLine .data false s)
  releaseLine .clock s

/-- What is put on `DATA` in iteration `s.i` of the bit loop: a data bit, the parity bit, or the released stop bit with
its hold (R114). -/
def putSlot (s : State) : State :=
  if s.i ≤ 7 then
    { driveLine .data (bitOf s.txb s.i) s with par := s.par ^^ bitOf s.txb s.i }
  else if s.i = 8 then driveLine .data s.par s
  else delayFor Config.tStopSettle (releaseLine .data s)

/-- Iteration `n` of the bit loop: set the line, then one clock cycle (R114, R115). -/
def sendSlot (n : Nat) (s : State) : Progress :=
  (waitOr .clock true (Config.txErrBitHigh n) (putSlot { s with i := n })).andThen
    (waitOr .clock false (Config.txErrBitLow n))

/-- Iterations of the bit loop in order. -/
def sendSlots : List Nat → State → Progress
  | [], s => .going s
  | n :: rest, s => (sendSlot n s).andThen (sendSlots rest)

/-- i = 0..9. -/
def txSlots : List Nat := List.range Config.nTxSlots

/-- State 4, the ack check and the end (R116). -/
def ackCheck (s : State) : Progress :=
  let r := sampleLine .data s
  if r.1 then .aborted Config.txErrAck r.2
  else (waitOr .clock true Config.txErrEndClk r.2).andThen fun t => .going (driveLine .clock false t)

/-- `sendByte(b)` (R110). -/
def sendByte (b : Byte) (s : State) : Int × State :=
  ((waitOr .clock false Config.txErrClkFall (requestToSend b s)).andThen fun t =>
    (sendSlots txSlots { t with par := true }).andThen ackCheck).toResult fun _ => Config.txOk

/-! ## receiveByte (R117 to R120) -/

/-- The start of a receive (R117). -/
def receiveStart (s : State) : State :=
  { delayFor Config.tRxSettle (releaseLine .data (releaseLine .clock s)) with i := 0, acc := 0, ones := 0 }

/-- What is done with the bit sampled at slot `s.i` (R119). -/
def takeSlot (d : Level) (s : State) : Progress :=
  match slotVerdict s.i d s.acc s.ones with
  | .ok (acc, ones) => .going { s with acc := acc, ones := ones }
  | .error code => .aborted code s

/-- Slot `n` of a receive: clock low, clock high, sample, check (R118, R119). -/
def recvSlot (n : Nat) (s : State) : Progress :=
  (waitOr .clock false (Config.rxErrClkLow n) { s with i := n }).andThen fun t =>
    (waitOr .clock true (Config.rxErrClkHigh n) t).andThen fun u =>
      let r := sampleLine .data u
      takeSlot r.1 r.2

/-- Slots in order. -/
def recvSlots : List Nat → State → Progress
  | [], s => .going s
  | n :: rest, s => (recvSlot n s).andThen (recvSlots rest)

/-- i = 0..10. -/
def rxSlots : List Nat := List.range Config.nRxSlots

/-- `receiveByte()` (R117, R120). -/
def receiveByte (s : State) : Int × State :=
  ((recvSlots rxSlots (receiveStart s)).andThen fun t => .going (driveLine .clock false t)).toResult
    fun t => (t.acc.toNat : Int)

/-! ## writeAndReadAck and read (R121, R122) -/

/-- `writeAndReadAck(b)` (R121). -/
def writeAndReadAck (b : Byte) (s : State) : Int × State :=
  let r := sendByte b s
  if r.1 < 0 then (Config.wraErrSend, r.2)
  else
    let q := receiveByte r.2
    if q.1 < 0 then (Config.wraErrRecv, q.2) else (maskByte q.1, q.2)

/-- `read()` (R122). -/
def readByte (s : State) : Int × State := receiveByte s

/-! ## Meanings -/

/-- `SEND b` (R110). -/
def execOpSend (b : Byte) (s : State) : Host.Outcome State Fault Refusal := answer (sendByte b s)

/-- `RECV` (R117). -/
def execOpRecv (s : State) : Host.Outcome State Fault Refusal := answer (receiveByte s)

/-- `WRA b` (R121). -/
def execOpWra (b : Byte) (s : State) : Host.Outcome State Fault Refusal := answer (writeAndReadAck b s)

/-- `READ` (R122). -/
def execOpRead (s : State) : Host.Outcome State Fault Refusal := answer (readByte s)

end Sys2Proof.Machine
end

