-- ==== Sys2Proof/Machine/Session.lean ====
section
/-! DEFINITION. The device session: `begin`, `update`, the report decode, the inert setters (42_device_session.md), and
the meanings of `BEGIN`, `UPDATE`, `SETRES`, `SETRATE` and of the reserved codes. -/

namespace Sys2Proof.Machine

/-! ## update (R136 to R144) -/

/-- What a report read leaves in `rep[n]`: the byte, or any 8-bit value when the read failed (R138; log 6). -/
def storeReport (n : Nat) (v : Int) (s : State) : State :=
  if v ≥ 0 then { s with rep := setRep n (BitVec.ofInt 8 v) s.rep }
  else { s with rep := setRep n (Config.staleByte s.draws) s.rep, draws := s.draws + 1 }

/-- Report read number `n`: control point U1 with `k` = n (R138, 10_state.md R38). -/
def reportRead (n : Nat) (s : State) : State :=
  let r := readByte { s with k := n }
  storeReport n r.1 r.2

/-- The event the report registers decode to, with `moveZ` at draw number `n` (R139, R140, R141; log 5). -/
def decodeEvent (r : Report) (n : Nat) : MouseEvent where
  btnLeft := bitOf r.b0 Config.btnL
  btnRight := bitOf r.b0 Config.btnR
  btnCenter := bitOf r.b0 Config.btnC
  moveX := motion r.b0 Config.signX r.b1
  moveY := motion r.b0 Config.signY r.b2
  moveZ := (Config.zdec n r.b3).toInt

/-- The decode step U2: the six fields written together (R142). -/
def decodeReport (s : State) : State :=
  { s with ev := decodeEvent s.rep s.draws, draws := s.draws + 1 }

/-- Report reads in order; a failed one does not skip the next (R138). -/
def reportReads : List Nat → State → State
  | [], s => s
  | n :: rest, s => reportReads rest (reportRead n s)

/-- k = 0..2. -/
def reportIndexes : List Nat := List.range Config.nReportFetched

/-- `update()` (R143): it returns nothing, and the codes inside are dropped (R144, 60_exceptions.md R178). -/
def update (s : State) : State :=
  decodeReport (reportReads reportIndexes (writeAndReadAck Config.cmdReadData s).2)

/-! ## begin (R131 to R135) -/

/-- Payload reads, results discarded, `k` counting them (R133, 10_state.md R38 point B2). -/
def payloadReads : Nat → State → State
  | 0, s => s
  | n + 1, s =>
    let r := readByte s
    payloadReads n { r.2 with k := r.2.k + 1 }

/-- One exchange of the session: the command byte, its acknowledgment, and the payload when the acknowledgment is 0xFA;
the value is `writeAndReadAck`'s (30_encoding.md R92, 42_device_session.md R132, R133). -/
def exchange (b : Byte) (payload : Nat) (s : State) : Int × State :=
  let r := writeAndReadAck b s
  if isAck r.1 then (r.1, payloadReads payload { r.2 with k := 0 }) else r

/-- The initialisation list from the entries still to come: stop with `false` at the first acknowledgment that is not
0xFA, else `update` and `true` (R132, R134). -/
def beginFrom : List Nat → State → Int × State
  | [], s => (1, update s)
  | n :: rest, s =>
    let r := exchange (initAt n) (payloadAt n) { s with seq := n }
    if isAck r.1 then beginFrom rest r.2 else (0, r.2)

/-- seq = 0..6. -/
def initSteps : List Nat := List.range Config.initLen

/-- `begin()`; `true` = 1, `false` = 0 (R135). -/
def beginSession (s : State) : Int × State := beginFrom initSteps s

/-! ## Meanings -/

/-- `BEGIN` (R135). -/
def execOpBegin (s : State) : Host.Outcome State Fault Refusal := answer (beginSession s)

/-- `UPDATE` (R143). -/
def execOpUpdate (s : State) : Host.Outcome State Fault Refusal := .next (update s)

/-- `SETRES x`: nothing (R145). -/
def execOpSetRes (_arg : Byte) (s : State) : Host.Outcome State Fault Refusal := .next s

/-- `SETRATE x`: nothing (R146). -/
def execOpSetRate (_arg : Byte) (s : State) : Host.Outcome State Fault Refusal := .next s

/-- Reserved code 0x0 (30_encoding.md R91; log 11). -/
def execReserved0 (_s : State) : Host.Outcome State Fault Refusal := .refused (.reservedCode 0x0)

/-- Reserved code 0x6 (R91; log 11). -/
def execReserved6 (_s : State) : Host.Outcome State Fault Refusal := .refused (.reservedCode 0x6)

/-- Reserved code 0x7 (R91; log 11). -/
def execReserved7 (_s : State) : Host.Outcome State Fault Refusal := .refused (.reservedCode 0x7)

end Sys2Proof.Machine
end

