-- ==== Sys2Proof/Machine/Commands.lean ====
section
/-! DEFINITION. The meanings of the command bytes (43_commands.md). A command the block sends is an exchange: the byte, one
reply byte, and after an acknowledgment of 0xFA the payload bytes the command has, read and discarded (30_encoding.md R92,
42_device_session.md R132, R133). A command the block itself never sends is an opaque byte: it is framed, one reply byte is
read, and nothing else happens (43_commands.md section 2). See log 8. -/

namespace Sys2Proof.Machine

/-! ## Commands the block sends -/

/-- `RESET` (R150). -/
def execCmdReset (s : State) : Host.Outcome State Fault Refusal :=
  answer (exchange Config.cmdReset Config.payloadReset s)

/-- `SET_DEFAULTS` (R151). -/
def execCmdSetDefaults (s : State) : Host.Outcome State Fault Refusal :=
  answer (exchange Config.cmdSetDefaults Config.payloadSetDefaults s)

/-- `SET_REMOTE_MODE` (R152). -/
def execCmdSetRemoteMode (s : State) : Host.Outcome State Fault Refusal :=
  answer (exchange Config.cmdSetRemoteMode Config.payloadSetRemoteMode s)

/-- `STATUS_REQUEST` (R153). -/
def execCmdStatusRequest (s : State) : Host.Outcome State Fault Refusal :=
  answer (exchange Config.cmdStatusRequest Config.payloadStatusRequest s)

/-- `READ_DATA` as `begin` handles its reply; `update`'s handling is `UPDATE`'s meaning (R154). -/
def execCmdReadData (s : State) : Host.Outcome State Fault Refusal :=
  answer (exchange Config.cmdReadData Config.payloadReadData s)

/-! ## Commands the block never sends by itself -/

/-- `RESEND` (R155). -/
def execCmdResend (s : State) : Host.Outcome State Fault Refusal :=
  answer (writeAndReadAck Config.cmdResend s)

/-- `DISABLE_DATA_REPORTING` (R156). -/
def execCmdDisableDataReporting (s : State) : Host.Outcome State Fault Refusal :=
  answer (writeAndReadAck Config.cmdDisableDataReporting s)

/-- `ENABLE_DATA_REPORTING` (R157). -/
def execCmdEnableDataReporting (s : State) : Host.Outcome State Fault Refusal :=
  answer (writeAndReadAck Config.cmdEnableDataReporting s)

/-- `SET_SAMPLE_RATE` (R158). -/
def execCmdSetSampleRate (s : State) : Host.Outcome State Fault Refusal :=
  answer (writeAndReadAck Config.cmdSetSampleRate s)

/-- `GET_DEVICE_ID` (R159). -/
def execCmdGetDeviceId (s : State) : Host.Outcome State Fault Refusal :=
  answer (writeAndReadAck Config.cmdGetDeviceId s)

/-- `SET_WRAP_MODE` (R160). -/
def execCmdSetWrapMode (s : State) : Host.Outcome State Fault Refusal :=
  answer (writeAndReadAck Config.cmdSetWrapMode s)

/-- `RESET_WRAP_MODE` (R161). -/
def execCmdResetWrapMode (s : State) : Host.Outcome State Fault Refusal :=
  answer (writeAndReadAck Config.cmdResetWrapMode s)

/-- `SET_STREAM_MODE` (R162). -/
def execCmdSetStreamMode (s : State) : Host.Outcome State Fault Refusal :=
  answer (writeAndReadAck Config.cmdSetStreamMode s)

/-- `SET_RESOLUTION` (R163). -/
def execCmdSetResolution (s : State) : Host.Outcome State Fault Refusal :=
  answer (writeAndReadAck Config.cmdSetResolution s)

end Sys2Proof.Machine
end

