-- ==== Sys2Proof/Machine/LineTransport.lean ====
section
/-! DEFINITION. The meanings of the line transport's operations (40_line_transport.md). They are internal: step lets a
higher layer issue them and refuses them to a caller (30_encoding.md R91). -/

namespace Sys2Proof.Machine

/-- `RELEASE line` (R100). -/
def execOpRelease (l : Line) (s : State) : Host.Outcome State Fault Refusal := .next (releaseLine l s)

/-- `DRIVE line, level` (R101). -/
def execOpDrive (l : Line) (v : Level) (s : State) : Host.Outcome State Fault Refusal := .next (driveLine l v s)

/-- `RDLVL line` (R102); its result, 0 or 1, stands in `result` (log 17). -/
def execOpRdlvl (l : Line) (s : State) : Host.Outcome State Fault Refusal :=
  let r := sampleLine l s
  answer (r.1.toNat, r.2)

/-- `DELAY n` (R103). -/
def execOpDelay (n : Nat) (s : State) : Host.Outcome State Fault Refusal := .next (delayFor n s)

/-- `WAIT line, level`, budget `WAIT_CEILING` (R104); its result, `true` = 1 or `false` = 0, stands in `result`
(log 17). -/
def execOpWait (l : Line) (v : Level) (s : State) : Host.Outcome State Fault Refusal :=
  let r := waitForLevel l v Config.waitCeiling s
  answer (r.1.toNat, r.2)

end Sys2Proof.Machine
end

