-- ==== Sys2Proof/Machine/Device.lean ====
section
/-! DEFINITION. The reference device's answers (95_test_vectors.md section 1): what a device that clocks correctly does at
the samples of a send and of a receive. Used by the meanings of the wire frames and report bytes (log 9) and by
statements as the premise "the device answers like this". -/

namespace Sys2Proof.Machine

/-- At this sample `CLOCK` has this level, as far as the device decides it. -/
def clockAt (v : Level) : Pulls := ⟨!v, false⟩

/-- At this sample `DATA` has this level, as far as the device decides it. -/
def dataAt (v : Level) : Pulls := ⟨false, !v⟩

/-- The answers to a wait for `v` on `CLOCK` that succeeds after `lag` samples of the opposite level. -/
def clockPhase (lag : Nat) (v : Level) : List Pulls := List.replicate lag (clockAt !v) ++ [clockAt v]

/-- The answers to the ten iterations of a send's bit loop. -/
def clockCycles (lag : Nat) : Nat → List Pulls
  | 0 => []
  | n + 1 => clockPhase lag true ++ clockPhase lag false ++ clockCycles lag n

/-- `txok(a)` with lag: the answers to a complete send. -/
def txAnswers (lag : Nat) (ack : Level) : List Pulls :=
  clockPhase lag false ++ clockCycles lag Config.nTxSlots ++ [dataAt ack] ++ clockPhase lag true

/-- The answers to one slot of a receive. -/
def slotAnswers (lag : Nat) (d : Level) : List Pulls :=
  clockPhase lag false ++ clockPhase lag true ++ [dataAt d]

/-- `rxframe(f)` with lag: the answers to the slots of a receive. -/
def rxAnswers (lag : Nat) : List Level → List Pulls
  | [] => []
  | d :: rest => slotAnswers lag d ++ rxAnswers lag rest

/-- `rx(b)`: the answers to a receive of the frame of `b`. -/
def byteAnswers (lag : Nat) (b : Byte) : List Pulls := rxAnswers lag (txFrame b)

/-- The frames of several bytes. -/
def bytesAnswers (lag : Nat) : List Byte → List Pulls
  | [] => []
  | b :: rest => byteAnswers lag b ++ bytesAnswers lag rest

/-- `exch(a, b1, ..., bn)`: a command acknowledged with byte `a` and followed by payload bytes. -/
def exchAnswers (lag : Nat) (a : Byte) (payload : List Byte) : List Pulls :=
  txAnswers lag false ++ byteAnswers lag a ++ bytesAnswers lag payload

/-- The device does this at the next samples, before whatever it was going to do. -/
def present (answers : List Pulls) (s : State) : State := { s with device := answers ++ s.device }

end Sys2Proof.Machine
end

