-- ==== Sys2Proof/Machine/WireItems.lean ====
section
/-! DEFINITION. The meanings of what goes over the wire: the response byte, the two frames, the report bytes. Each is the
block's own byte operation, which the caller has asked for (Input.transfer; an item that nobody has asked for is not
received, Input.shown), against a device that clocks it at once, so that every wait succeeds at its first sample
(41_byte_transport.md R124 "with every wait succeeding"; log 9). -/

namespace Sys2Proof.Machine

/-- `ACK`: the receive of the response 0xFA (43_commands.md R164). -/
def execRspAck (s : State) : Host.Outcome State Fault Refusal :=
  answer (receiveByte (present (byteAnswers 0 Config.ackCode) s))

/-- `FRAME_D2H`: the receive of these 11 slots. A receive that aborts leaves the slots it has not clocked in to the next
one (30_encoding.md R70, R87; 41_byte_transport.md R119). -/
def execFrameD2H (start : Level) (data : Byte) (parity stop : Level) (s : State) :
    Host.Outcome State Fault Refusal :=
  answer (receiveByte (present (rxAnswers 0 (frameSlots start data parity stop)) s))

/-- `FRAME_H2D`: the send of this byte to a device that puts this level in the ack slot (30_encoding.md R71, R88). -/
def execFrameH2D (data : Byte) (ack : Level) (s : State) : Host.Outcome State Fault Refusal :=
  answer (sendByte data (present (txAnswers 0 ack) s))

/-- `REPORT_FLAGS`: the first report read delivers this byte (42_device_session.md R138, R139). -/
def execReportFlags (b : Byte) (s : State) : Host.Outcome State Fault Refusal :=
  .next (reportRead 0 (present (byteAnswers 0 b) s))

/-- `REPORT_X`: the second report read delivers this byte (R138, R140). -/
def execReportX (b : Byte) (s : State) : Host.Outcome State Fault Refusal :=
  .next (reportRead 1 (present (byteAnswers 0 b) s))

/-- `REPORT_Y`: the third report read delivers this byte, and the report is decoded (R138, R140, R142). -/
def execReportY (b : Byte) (s : State) : Host.Outcome State Fault Refusal :=
  .next (decodeReport (reportRead 2 (present (byteAnswers 0 b) s)))

/-- `REPORT_Z`: the 4th byte "is never fetched or assigned in this implementation": it has no effect (R141; log 10). -/
def execReportZ (_b : Byte) (s : State) : Host.Outcome State Fault Refusal := .next s

end Sys2Proof.Machine
end

