-- ==== Sys2Proof/Machine/Dispatch.lean ====
section
/-! DEFINITION. One arm per row of spec/opcode_table.json. -/

namespace Sys2Proof.Machine

def exec (i : Instr) (s : State) : Host.Outcome State Fault Refusal :=
  match i with
  -- command bytes
  | .cmdReset => Sys2Proof.Machine.execCmdReset s
  | .cmdResend => Sys2Proof.Machine.execCmdResend s
  | .cmdSetDefaults => Sys2Proof.Machine.execCmdSetDefaults s
  | .cmdDisableDataReporting => Sys2Proof.Machine.execCmdDisableDataReporting s
  | .cmdEnableDataReporting => Sys2Proof.Machine.execCmdEnableDataReporting s
  | .cmdSetSampleRate => Sys2Proof.Machine.execCmdSetSampleRate s
  | .cmdGetDeviceId => Sys2Proof.Machine.execCmdGetDeviceId s
  | .cmdSetRemoteMode => Sys2Proof.Machine.execCmdSetRemoteMode s
  | .cmdSetWrapMode => Sys2Proof.Machine.execCmdSetWrapMode s
  | .cmdResetWrapMode => Sys2Proof.Machine.execCmdResetWrapMode s
  | .cmdReadData => Sys2Proof.Machine.execCmdReadData s
  | .cmdSetStreamMode => Sys2Proof.Machine.execCmdSetStreamMode s
  | .cmdStatusRequest => Sys2Proof.Machine.execCmdStatusRequest s
  | .cmdSetResolution => Sys2Proof.Machine.execCmdSetResolution s
  -- response byte
  | .rspAck => Sys2Proof.Machine.execRspAck s
  -- wire frames
  | .frameD2H start data parity stop => Sys2Proof.Machine.execFrameD2H start data parity stop s
  | .frameH2D data ack => Sys2Proof.Machine.execFrameH2D data ack s
  -- report bytes
  | .reportFlags b => Sys2Proof.Machine.execReportFlags b s
  | .reportX b => Sys2Proof.Machine.execReportX b s
  | .reportY b => Sys2Proof.Machine.execReportY b s
  | .reportZ b => Sys2Proof.Machine.execReportZ b s
  -- operations
  | .opBegin => Sys2Proof.Machine.execOpBegin s
  | .opUpdate => Sys2Proof.Machine.execOpUpdate s
  | .opSetRes arg => Sys2Proof.Machine.execOpSetRes arg s
  | .opSetRate arg => Sys2Proof.Machine.execOpSetRate arg s
  | .opDelay n => Sys2Proof.Machine.execOpDelay n s
  | .opSend b => Sys2Proof.Machine.execOpSend b s
  | .opRecv => Sys2Proof.Machine.execOpRecv s
  | .opWra b => Sys2Proof.Machine.execOpWra b s
  | .opRead => Sys2Proof.Machine.execOpRead s
  | .opRelease line => Sys2Proof.Machine.execOpRelease line s
  | .opDrive line level => Sys2Proof.Machine.execOpDrive line level s
  | .opRdlvl line => Sys2Proof.Machine.execOpRdlvl line s
  | .opWait line level => Sys2Proof.Machine.execOpWait line level s
  -- reserved operation codes
  | .reserved0 => Sys2Proof.Machine.execReserved0 s
  | .reserved6 => Sys2Proof.Machine.execReserved6 s
  | .reserved7 => Sys2Proof.Machine.execReserved7 s

end Sys2Proof.Machine
end

