-- ==== Sys2Proof/WellFormed.lean ====
section
/-! DEFINITION. Which instructions have an encoding. -/

namespace Sys2Proof

/-- The operand of `DELAY` has 16 bits in the model's request word (log 13); every other operand is bounded by its type.
The block itself uses the six time constants of 00_scope.md R6 only, all below 2^16. -/
def Instr.wellFormed : Instr → Bool
  | .cmdReset | .cmdResend | .cmdSetDefaults | .cmdDisableDataReporting | .cmdEnableDataReporting
  | .cmdSetSampleRate | .cmdGetDeviceId | .cmdSetRemoteMode | .cmdSetWrapMode | .cmdResetWrapMode
  | .cmdReadData | .cmdSetStreamMode | .cmdStatusRequest | .cmdSetResolution | .rspAck => true
  | .frameD2H _ _ _ _ | .frameH2D _ _ => true
  | .reportFlags _ | .reportX _ | .reportY _ | .reportZ _ => true
  | .opDelay n => decide (n < 2 ^ 16)
  | .opBegin | .opUpdate | .opSetRes _ | .opSetRate _ | .opSend _ | .opRecv | .opWra _ | .opRead
  | .opRelease _ | .opDrive _ _ | .opRdlvl _ | .opWait _ _ => true
  | .reserved0 | .reserved6 | .reserved7 => true

end Sys2Proof
end

