-- ==== Sys2Proof/Decode.lean ====
section
/-! DEFINITION. Decoding a word, total and rejecting by name, and the encoder (30_encoding.md sections 1 and 3,
spec/opcode_table.json). -/

namespace Sys2Proof

open Sys2Proof.Machine (oddParity)

/-! ## Bit fields -/

/-- The `n` bits of a word from bit `lo` up. -/
def field (w : BitVec 24) (lo n : Nat) : BitVec n := w.extractLsb' lo n

/-- The line an operand bit names: `CLOCK` = 0, `DATA` = 1 (30_encoding.md R86). -/
def lineOfBit (b : Bool) : Line := if b then .data else .clock

/-- The operand bit of a line (R86). -/
def bitOfLine : Line → Bool
  | .clock => false
  | .data => true

/-! ## Command bytes -/

/-- The closed enumeration of 30_encoding.md R85. -/
def commandTable : List (Byte × Instr) :=
  [(Config.cmdReset, .cmdReset), (Config.cmdResend, .cmdResend), (Config.cmdSetDefaults, .cmdSetDefaults),
   (Config.cmdDisableDataReporting, .cmdDisableDataReporting),
   (Config.cmdEnableDataReporting, .cmdEnableDataReporting), (Config.cmdSetSampleRate, .cmdSetSampleRate),
   (Config.cmdGetDeviceId, .cmdGetDeviceId), (Config.cmdSetRemoteMode, .cmdSetRemoteMode),
   (Config.cmdSetWrapMode, .cmdSetWrapMode), (Config.cmdResetWrapMode, .cmdResetWrapMode),
   (Config.cmdReadData, .cmdReadData), (Config.cmdSetStreamMode, .cmdSetStreamMode),
   (Config.cmdStatusRequest, .cmdStatusRequest), (Config.cmdSetResolution, .cmdSetResolution)]

/-- A command byte (30_encoding.md R73, R85). -/
def decodeCommand (w : BitVec 24) : Except DecodeError Instr :=
  if field w 8 16 ≠ 0 then .error .highBits
  else
    match commandTable.lookup (field w 0 8) with
    | some i => .ok i
    | none => .error .unknownCommand

/-- The one response byte with a meaning (30_encoding.md R74). -/
def decodeResponse (w : BitVec 24) : Except DecodeError Instr :=
  if field w 8 16 ≠ 0 then .error .highBits
  else if field w 0 8 = Config.ackCode then .ok .rspAck else .error .unknownResponse

/-! ## Frames -/

/-- An 11-slot frame: word bit s is slot s. Every slot pattern is an instruction: the block gives each its effect, the
frames it rejects included (30_encoding.md R70, R87). -/
def decodeFrame11 (w : BitVec 24) : Except DecodeError Instr :=
  if field w 11 13 ≠ 0 then .error .highBits
  else .ok (.frameD2H (w.getLsbD 0) (field w 1 8) (w.getLsbD 9) (w.getLsbD 10))

/-- A 12-slot frame: slots 0 to 10 as the host drives them, slot 11 the ack (30_encoding.md R71). -/
def decodeFrame12 (w : BitVec 24) : Except DecodeError Instr :=
  if field w 12 12 ≠ 0 then .error .highBits
  else if w.getLsbD 0 = false ∧ w.getLsbD 10 = true ∧ w.getLsbD 9 = oddParity (field w 1 8) then
    .ok (.frameH2D (field w 1 8) (w.getLsbD 11))
  else .error .frameNeverSent

/-! ## Report bytes -/

/-- A report byte: all 8 bits are its value (30_encoding.md R75 to R77). -/
def decodeReportByte (make : Byte → Instr) (w : BitVec 24) : Except DecodeError Instr :=
  if field w 8 16 ≠ 0 then .error .highBits else .ok (make (field w 0 8))

/-! ## Requests -/

/-- A request without an operand: `op_arg` is not looked at (30_encoding.md R86, 95_test_vectors.md P1 writes it "--"). -/
def decodeBare (i : Instr) (w : BitVec 24) : Except DecodeError Instr :=
  if field w 16 8 ≠ 0 then .error .highBits else .ok i

/-- A request with the 8-bit operand `op_arg` (R86). -/
def decodeByteOperand (make : Byte → Instr) (w : BitVec 24) : Except DecodeError Instr :=
  if field w 16 8 ≠ 0 then .error .highBits else .ok (make (field w 8 8))

/-- An internal operation with a line operand: bit 8 (log 13). -/
def decodeLineOperand (make : Line → Instr) (w : BitVec 24) : Except DecodeError Instr :=
  if field w 9 15 ≠ 0 then .error .operandBits else .ok (make (lineOfBit (w.getLsbD 8)))

/-- An internal operation with a line and a level operand: bits 8 and 9 (log 13). -/
def decodeLineLevelOperand (make : Line → Level → Instr) (w : BitVec 24) : Except DecodeError Instr :=
  if field w 10 14 ≠ 0 then .error .operandBits
  else .ok (make (lineOfBit (w.getLsbD 8)) (w.getLsbD 9))

/-- A request word: bits 3..0 `op_sel`, bits 7..4 zero, bits 15..8 `op_arg`; `DELAY`'s operand has bits 23..8
(30_encoding.md R86, R91, D1; log 13). -/
def decodeOp (w : BitVec 24) : Except DecodeError Instr :=
  if field w 4 4 ≠ 0 then .error .highBits
  else
    match (field w 0 4).toNat with
    | 0x0 => decodeBare .reserved0 w
    | 0x1 => decodeBare .opBegin w
    | 0x2 => decodeBare .opUpdate w
    | 0x3 => decodeByteOperand .opSetRes w
    | 0x4 => decodeByteOperand .opSetRate w
    | 0x5 => .ok (.opDelay (field w 8 16).toNat)
    | 0x6 => decodeBare .reserved6 w
    | 0x7 => decodeBare .reserved7 w
    | 0x8 => decodeByteOperand .opSend w
    | 0x9 => decodeBare .opRecv w
    | 0xA => decodeByteOperand .opWra w
    | 0xB => decodeBare .opRead w
    | 0xC => decodeLineOperand .opRelease w
    | 0xD => decodeLineLevelOperand .opDrive w
    | 0xE => decodeLineOperand .opRdlvl w
    | _ => decodeLineLevelOperand .opWait w

/-- The instruction a word stands for, or why it stands for none. -/
def decode (w : RawWord) : Except DecodeError Instr :=
  match w.format with
  | .opSel => decodeOp w.bits
  | .commandByte => decodeCommand w.bits
  | .responseByte => decodeResponse w.bits
  | .wireFrame11 => decodeFrame11 w.bits
  | .wireFrame12 => decodeFrame12 w.bits
  | .reportByte1 => decodeReportByte .reportFlags w.bits
  | .reportByte2 => decodeReportByte .reportX w.bits
  | .reportByte3 => decodeReportByte .reportY w.bits
  | .reportByte4 => decodeReportByte .reportZ w.bits

/-! ## The encoder -/

/-- A request word without an operand. -/
def encodeBare (sel : BitVec 4) : RawWord := ⟨.opSel, sel.setWidth 24⟩

/-- A request word with an operand in bits 23..8. -/
def encodeOperand (sel : BitVec 4) (operand : BitVec 16) : RawWord :=
  ⟨.opSel, operand ++ (0#4 ++ sel)⟩

/-- The operand of an internal operation on a line at a level (log 13). -/
def lineLevelOperand (line : Line) (level : Level) : BitVec 16 :=
  (BitVec.ofBool level ++ BitVec.ofBool (bitOfLine line)).setWidth 16

/-- A word of one byte in a format. -/
def encodeByte (f : Format) (b : Byte) : RawWord := ⟨f, b.setWidth 24⟩

/-- An 11-slot frame, bit s = slot s (30_encoding.md R70). -/
def encodeFrame11 (start : Level) (data : Byte) (parity stop : Level) : BitVec 11 :=
  BitVec.ofBool stop ++ (BitVec.ofBool parity ++ (data ++ BitVec.ofBool start))

/-- The word of an instruction, written from the same tables. -/
def encode : Instr → RawWord
  | .cmdReset => encodeByte .commandByte Config.cmdReset
  | .cmdResend => encodeByte .commandByte Config.cmdResend
  | .cmdSetDefaults => encodeByte .commandByte Config.cmdSetDefaults
  | .cmdDisableDataReporting => encodeByte .commandByte Config.cmdDisableDataReporting
  | .cmdEnableDataReporting => encodeByte .commandByte Config.cmdEnableDataReporting
  | .cmdSetSampleRate => encodeByte .commandByte Config.cmdSetSampleRate
  | .cmdGetDeviceId => encodeByte .commandByte Config.cmdGetDeviceId
  | .cmdSetRemoteMode => encodeByte .commandByte Config.cmdSetRemoteMode
  | .cmdSetWrapMode => encodeByte .commandByte Config.cmdSetWrapMode
  | .cmdResetWrapMode => encodeByte .commandByte Config.cmdResetWrapMode
  | .cmdReadData => encodeByte .commandByte Config.cmdReadData
  | .cmdSetStreamMode => encodeByte .commandByte Config.cmdSetStreamMode
  | .cmdStatusRequest => encodeByte .commandByte Config.cmdStatusRequest
  | .cmdSetResolution => encodeByte .commandByte Config.cmdSetResolution
  | .rspAck => encodeByte .responseByte Config.ackCode
  | .frameD2H start data parity stop => ⟨.wireFrame11, (encodeFrame11 start data parity stop).setWidth 24⟩
  | .frameH2D data ack =>
    ⟨.wireFrame12, (BitVec.ofBool ack ++ encodeFrame11 false data (oddParity data) true).setWidth 24⟩
  | .reportFlags b => encodeByte .reportByte1 b
  | .reportX b => encodeByte .reportByte2 b
  | .reportY b => encodeByte .reportByte3 b
  | .reportZ b => encodeByte .reportByte4 b
  | .opBegin => encodeBare 0x1
  | .opUpdate => encodeBare 0x2
  | .opSetRes arg => encodeOperand 0x3 (arg.setWidth 16)
  | .opSetRate arg => encodeOperand 0x4 (arg.setWidth 16)
  | .opDelay n => encodeOperand 0x5 (BitVec.ofNat 16 n)
  | .opSend b => encodeOperand 0x8 (b.setWidth 16)
  | .opRecv => encodeBare 0x9
  | .opWra b => encodeOperand 0xA (b.setWidth 16)
  | .opRead => encodeBare 0xB
  | .opRelease line => encodeOperand 0xC (lineLevelOperand line false)
  | .opDrive line level => encodeOperand 0xD (lineLevelOperand line level)
  | .opRdlvl line => encodeOperand 0xE (lineLevelOperand line false)
  | .opWait line level => encodeOperand 0xF (lineLevelOperand line level)
  | .reserved0 => encodeBare 0x0
  | .reserved6 => encodeBare 0x6
  | .reserved7 => encodeBare 0x7

/-! ## Bare words of the opcode table (log 14) -/

/-- The format a bare word of spec/opcode_table.json is read in. Up to 8 bits: an operation-select code (below 0x10),
0xFA a response byte, else a command byte. Up to 11 bits a device-to-host frame, 12 bits a host-to-device frame. A wider
word (a frame in two whole bytes) is a host-to-device frame when slot 11 is 1 and a device-to-host frame otherwise: an
acknowledged host-to-device frame and a device-to-host frame of the same byte have the same bits. -/
def formatOfTableWord (nbits w : Nat) : Format :=
  if nbits ≤ 8 then
    if w < 0x10 then .opSel else if w = Config.ackCode.toNat then .responseByte else .commandByte
  else if nbits ≤ 11 then .wireFrame11
  else if nbits = 12 then .wireFrame12
  else if Nat.testBit w 11 then .wireFrame12 else .wireFrame11

/-- A bare word of the table as a word with its format. -/
def tableWord (nbits w : Nat) : RawWord := ⟨formatOfTableWord nbits w, BitVec.ofNat 24 w⟩

/-- The instruction the decoder reads from a bare word of the table. -/
def decodeTableWord (nbits w : Nat) : Option Instr :=
  if w < 2 ^ 24 then
    match decode (tableWord nbits w) with
    | .ok i => some i
    | .error _ => none
  else none

end Sys2Proof
end

