-- ==== Sys2Proof/Machine/Control.lean ====
section
/-! DEFINITION. The block from control point to control point (10_state.md R33 to R38): one tick is one point's action, or
the taking of a value an inner operation has returned. It uses the same primitives and the same slot computations as the
meanings; that a started operation ends in the state its meaning gives is a statement (Obligations). -/

namespace Sys2Proof.Machine

/-- Replaces the active point. -/
def goto (p : Point) (rest : List Point) (s : State) : State := { s with ctl := ⟨p :: rest, none⟩ }

/-- Calls an inner operation at its first point; the calling point stays below it. -/
def callPoint (child caller : Point) (rest : List Point) (s : State) : State :=
  { s with ctl := ⟨child :: caller :: rest, none⟩ }

/-- The innermost operation ends and hands a value to the one below; the outermost one ends the request (`op_done`). -/
def returnTo (rest : List Point) (value : Int) (s : State) : State :=
  match rest with
  | [] => { s with ctl := .idle, done := true }
  | _ :: _ => { s with ctl := ⟨rest, some value⟩ }

/-- The end of an operation that returns a value: the caller's own stands in `result` (10_state.md R32; log 17). -/
def returnResult (rest : List Point) (value : Int) (s : State) : State :=
  match rest with
  | [] => returnTo [] value (finish value s)
  | p :: below => returnTo (p :: below) value s

/-- An abort, from the control point that failed (60_exceptions.md R185). -/
def abortTo (rest : List Point) (code : Int) (s : State) : State :=
  returnResult rest (abortWith code s).1 (abortWith code s).2

/-- The action of a control point. -/
def runPoint (p : Point) (rest : List Point) (s : State) : State :=
  match p with
  -- R34
  | .w0 l v => goto (.w1 l v) rest { s with count := 0 }
  | .w1 l v =>
    let r := look l s
    if r.1 = v then returnResult rest 1 (emit (waitEvent l v true r.2.count) r.2)
    else
      let t := { r.2 with count := r.2.count + 1 }
      if t.count > Config.waitCeiling then
        returnResult rest 0 (emit (waitEvent l v false t.count) t)
      else goto (.w2 l v) rest t
  -- `Delay(T_POLL)`: no register changes; the wait's event counts the pauses (`pollPause`)
  | .w2 l v => goto (.w1 l v) rest s
  -- R35
  | .s0 b => goto .s1 rest (releaseLine .data { s with txb := b })
  | .s1 => goto .s2 rest (releaseLine .clock s)
  | .s2 => goto .s3 rest (delayFor Config.tIdleSettle s)
  | .s3 => goto .s4 rest (driveLine .clock false s)
  | .s4 => goto .s5 rest (delayFor Config.tClkHold s)
  | .s5 => goto .s6 rest (driveLine .data false s)
  | .s6 => goto .s7 rest (delayFor Config.tBitSettle s)
  | .s7 => goto .s8 rest (releaseLine .clock s)
  | .s8 => callPoint (.w0 .clock false) .s8 rest s
  | .s9 => goto .s10 rest (putSlot s)
  | .s10 => callPoint (.w0 .clock true) .s10 rest s
  | .s11 => callPoint (.w0 .clock false) .s11 rest s
  | .s12 =>
    let r := sampleLine .data s
    if r.1 then abortTo rest Config.txErrAck r.2 else goto .s13 rest r.2
  | .s13 => callPoint (.w0 .clock true) .s13 rest s
  | .s14 => returnResult rest Config.txOk (driveLine .clock false s)
  -- R36
  | .v0 => goto .v1 rest (releaseLine .clock s)
  | .v1 => goto .v2 rest (releaseLine .data s)
  | .v2 => goto .v3 rest { delayFor Config.tRxSettle s with i := 0, acc := 0, ones := 0 }
  | .v3 => callPoint (.w0 .clock false) .v3 rest s
  | .v4 => callPoint (.w0 .clock true) .v4 rest s
  | .v5 =>
    let r := sampleLine .data s
    match takeSlot r.1 r.2 with
    | .aborted code t => abortTo rest code t
    | .going t => if t.i + 1 < Config.nRxSlots then goto .v3 rest { t with i := t.i + 1 } else goto .v6 rest t
  | .v6 =>
    let t := driveLine .clock false s
    returnResult rest (t.acc.toNat : Int) t
  -- R37
  | .a0 b => callPoint (.s0 b) (.a0 b) rest s
  | .a1 => callPoint .v0 .a1 rest s
  | .d0 => callPoint .v0 .d0 rest s
  -- R38
  | .b0 => goto .b1 rest { s with seq := 0 }
  | .b1 => callPoint (.a0 (initAt s.seq)) .b1 rest s
  | .b2 => if s.k < payloadAt s.seq then callPoint .d0 .b2 rest s else goto .b3 rest s
  | .b3 => if s.seq + 1 < Config.initLen then goto .b1 rest { s with seq := s.seq + 1 } else goto .b4 rest s
  | .b4 => callPoint .u0 .b4 rest s
  | .u0 => callPoint (.a0 Config.cmdReadData) .u0 rest s
  | .u1 => callPoint .d0 .u1 rest s
  | .u2 => returnTo rest 0 (decodeReport s)

/-- A calling point takes the value its inner operation returned: the columns "next on success" and "on failure" of
R35 to R38. A point that calls nothing never has a value to take; it drops one. -/
def resumePoint (p : Point) (value : Int) (rest : List Point) (s : State) : State :=
  match p with
  | .s8 =>
    if value = 1 then goto .s9 rest { s with i := 0, par := true } else abortTo rest Config.txErrClkFall s
  | .s10 => if value = 1 then goto .s11 rest s else abortTo rest (Config.txErrBitHigh s.i) s
  | .s11 =>
    if value = 1 then
      if s.i + 1 < Config.nTxSlots then goto .s9 rest { s with i := s.i + 1 } else goto .s12 rest s
    else abortTo rest (Config.txErrBitLow s.i) s
  | .s13 => if value = 1 then goto .s14 rest s else abortTo rest Config.txErrEndClk s
  | .v3 => if value = 1 then goto .v4 rest s else abortTo rest (Config.rxErrClkLow s.i) s
  | .v4 => if value = 1 then goto .v5 rest s else abortTo rest (Config.rxErrClkHigh s.i) s
  | .a0 _ => if value < 0 then returnResult rest Config.wraErrSend s else goto .a1 rest s
  | .a1 =>
    if value < 0 then returnResult rest Config.wraErrRecv s else returnResult rest (maskByte value) s
  | .d0 => returnResult rest value s
  | .b1 => if isAck value then goto .b2 rest { s with k := 0 } else returnResult rest 0 s
  | .b2 => goto .b2 rest { s with k := s.k + 1 }
  | .b4 => returnResult rest 1 s
  | .u0 => goto .u1 rest { s with k := 0 }
  | .u1 =>
    let t := storeReport s.k value s
    if t.k + 1 < Config.nReportFetched then goto .u1 rest { t with k := t.k + 1 } else goto .u2 rest t
  | .w0 _ _ | .w1 _ _ | .w2 _ _ | .s0 _ | .s1 | .s2 | .s3 | .s4 | .s5 | .s6 | .s7 | .s9 | .s12 | .s14
  | .v0 | .v1 | .v2 | .v5 | .v6 | .b0 | .b3 | .u2 => goto p rest s

/-- One tick of the block; an idle block does nothing (10_state.md R44, 60_exceptions.md R192). -/
def tick (s : State) : State :=
  match s.ctl.stack with
  | [] => s
  | p :: rest =>
    match s.ctl.ret with
    | none => runPoint p rest s
    | some value => resumePoint p value rest s

/-- The line whose level the next tick samples, if it samples one (R34 W1, R35 S12, R36 V5). -/
def samplesNext (s : State) : Option Line :=
  match s.ctl.stack, s.ctl.ret with
  | .w1 l _ :: _, none => some l
  | .s12 :: _, none => some .data
  | .v5 :: _, none => some .data
  | _, _ => none

end Sys2Proof.Machine
end

