-- ==== Sys2Proof/Machine/Fetch.lean ====
section
/-! DEFINITION. What a step finds to do: an arrival from outside, or the block's own next tick (92_eei_decisions.md D1,
D14, D16, D18; 20_memory.md R62; 30_encoding.md R91). -/

namespace Sys2Proof.Machine

/-- `op_busy`: an operation is active (D1). -/
def busy (s : State) : Bool := !s.ctl.stack.isEmpty

/-- The block goes on to the rest of the inbox. -/
def arrived (rest : List Input) (s : State) : State := { s with inbox := rest }

/-- A request that runs as one step is taken: its trace begins, no value has been returned yet, and `op_done` stands at its
end (D18; logs 3, 4, 21, 25). -/
def accept (rest : List Input) (s : State) : State :=
  { s with inbox := rest, trace := [], valued := false, done := true }

/-- A request is started at a control point (10_state.md R33). -/
def startAt (p : Point) (rest : List Input) (s : State) : State :=
  { s with inbox := rest, trace := [], valued := false, done := false, ctl := ⟨[p], none⟩ }

/-- Reset: the state of 10_state.md R44 whatever was going on; the environment goes on as it was (70_reset_and_hazards.md
R200, R201; log 16). -/
def resetBlock (rest : List Input) (s : State) : State :=
  { State.reset with inbox := rest, device := s.device, draws := s.draws }

/-- The word on the ports `op_sel` and `op_arg` (D1). -/
def portWord (sel : BitVec 4) (arg : Byte) : RawWord := encodeOperand sel (arg.setWidth 16)

/-- The codes a caller may not start: 0x5 and 0xC to 0xF (30_encoding.md R86, R91). -/
def internalCode (sel : BitVec 4) : Bool :=
  sel == 0x5 || sel == 0xC || sel == 0xD || sel == 0xE || sel == 0xF

/-- The first control point of an operation a caller may start; `SETRES` and `SETRATE` have none (10_state.md R35 to
R38). -/
def startPoint : Instr → Option Point
  | .opBegin => some .b0
  | .opUpdate => some .u0
  | .opSend b => some (.s0 b)
  | .opRecv => some .v0
  | .opWra b => some (.a0 b)
  | .opRead => some .d0
  | .cmdReset | .cmdResend | .cmdSetDefaults | .cmdDisableDataReporting | .cmdEnableDataReporting
  | .cmdSetSampleRate | .cmdGetDeviceId | .cmdSetRemoteMode | .cmdSetWrapMode | .cmdResetWrapMode
  | .cmdReadData | .cmdSetStreamMode | .cmdStatusRequest | .cmdSetResolution | .rspAck
  | .frameD2H _ _ _ _ | .frameH2D _ _ | .reportFlags _ | .reportX _ | .reportY _ | .reportZ _
  | .opSetRes _ | .opSetRate _ | .opDelay _ | .opRelease _ | .opDrive _ _ | .opRdlvl _ | .opWait _ _
  | .reserved0 | .reserved6 | .reserved7 => none

/-- What there is to do. -/
inductive Fetched where
  /-- The step is this state. -/
  | moved (s : State)
  /-- The step runs this instruction on this state. -/
  | run (i : Instr) (s : State)
  /-- The request is turned away. -/
  | turnedAway (r : Refusal)

/-- A word that runs as one step on an idle block. -/
def fetchWord (w : RawWord) (rest : List Input) (s : State) : Fetched :=
  match decode w with
  | .ok i => .run i (accept rest s)
  | .error e => .turnedAway (.undecodable e)

/-- A caller's call (D16, D18). -/
def fetchCall (sel : BitVec 4) (arg : Byte) (rest : List Input) (s : State) : Fetched :=
  if busy s then .turnedAway .busy
  else if internalCode sel then .turnedAway (.internalCode sel)
  else fetchWord (portWord sel arg) rest s

/-- The formats of what goes over the wire from the device, or to it as a frame; the others are requests of the block's own
(30_encoding.md R84). -/
def isItem : Format → Bool
  | .opSel | .commandByte => false
  | .responseByte | .wireFrame11 | .wireFrame12 | .reportByte1 | .reportByte2 | .reportByte3 | .reportByte4 => true

/-- An operation or a command byte issued by a higher layer (R84). -/
def fetchIssue (w : RawWord) (rest : List Input) (s : State) : Fetched :=
  if busy s then .turnedAway .busy
  else if isItem w.format then .turnedAway .wrongKind
  else fetchWord w rest s

/-- A caller's request for the byte operation that carries an item (R84; log 9). -/
def fetchTransfer (w : RawWord) (rest : List Input) (s : State) : Fetched :=
  if busy s then .turnedAway .busy
  else if isItem w.format then fetchWord w rest s
  else .turnedAway .wrongKind

/-- A caller's `op_start`: an operation with control points begins at its first; one without runs and is done at once
(95_test_vectors.md T18). -/
def fetchStart (sel : BitVec 4) (arg : Byte) (rest : List Input) (s : State) : Fetched :=
  if busy s then .turnedAway .busy
  else if internalCode sel then .turnedAway (.internalCode sel)
  else
    match decode (portWord sel arg) with
    | .error e => .turnedAway (.undecodable e)
    | .ok i =>
      match startPoint i with
      | some p => .moved (startAt p rest s)
      | none => .run i (accept rest s)

/-- The next thing to do. Nothing but a request of the caller or of a layer above the byte transport wakes an idle block: an
item that the device shows of its own accord is not received (60_exceptions.md R174, R192). -/
def fetch (s : State) : Fetched :=
  match s.inbox with
  | [] => .moved (tick s)
  | .pass :: rest => .moved (tick (arrived rest s))
  | .reset :: rest => .moved (resetBlock rest s)
  | .call sel arg :: rest => fetchCall sel arg rest s
  | .start sel arg :: rest => fetchStart sel arg rest s
  | .issue w :: rest => fetchIssue w rest s
  | .transfer w :: rest => fetchTransfer w rest s
  | .shown _ :: rest => .moved (tick (arrived rest s))

/-- The arrival by which a word comes to run: a caller's call where a caller may present it, a caller's transfer for an item
of the wire, else an operation or a command byte issued by a higher layer (log 15). -/
def inputOfWord (w : RawWord) : Input :=
  if w.format = .opSel ∧ ¬ internalCode (field w.bits 0 4) ∧ field w.bits 4 4 = 0 ∧ field w.bits 16 8 = 0 then
    .call (field w.bits 0 4) (field w.bits 8 8)
  else if isItem w.format then .transfer w
  else .issue w

end Sys2Proof.Machine
end

