-- ==== Sys2Proof/Machine/Step.lean ====
section
/-! DEFINITION. One step, and where the next instruction comes from. -/

namespace Sys2Proof.Machine

/-- One step: what arrives from outside, else the block's next control point (Fetch). -/
def step (s : State) : Host.Outcome State Fault Refusal :=
  match fetch s with
  | .moved t => .next t
  | .run i t => exec i t
  | .turnedAway r => .refused r

/-- The word arrives at the next step of an idle block (log 15). -/
def State.withFetchWord (s : State) (nbits w : Nat) : State :=
  { s with inbox := inputOfWord (tableWord nbits w) :: s.inbox, ctl := .idle }

end Sys2Proof.Machine
end

