-- ==== Sys2Proof/Machine/Ports.lean ====
section
/-! DEFINITION. The ports of 92_eei_decisions.md D1 as views of the state. -/

namespace Sys2Proof.Machine

/-- `ps2c_oe`, `ps2d_oe`: 1 = driven, = `mode[line]` (D1, 10_state.md R20). -/
def pinOutputEnable (l : Line) (s : State) : Bool := (readPin l s).mode == .driven

/-- `ps2c_o`, `ps2d_o`: = `out[line]` (D1, R21). -/
def pinOutput (l : Line) (s : State) : Level := (readPin l s).out

/-- `op_done` (D1, D18). -/
def opDone (s : State) : Bool := s.done

/-- `op_result[15:0]`, two's complement. There is none while an operation is active (D1, D18, 93_implementation_defined.md
U10; log 24), and none after an operation that returns nothing (30_encoding.md R79, R86, 60_exceptions.md R173, R178;
log 25). -/
def opResult (s : State) : Option (BitVec Config.resultW) :=
  if busy s then none else if s.valued then some (BitVec.ofInt Config.resultW s.result) else none

/-- The `MouseEvent` the caller reads between calls (10_state.md R31); not readable while an operation is active (U10). -/
def callerEvent (s : State) : Option MouseEvent := if busy s then none else some s.ev

/-- `ev_move_x` on its 16-bit port (D1, D15). -/
def evMoveX (s : State) : BitVec Config.moveW := BitVec.ofInt Config.moveW s.ev.moveX

/-- `ev_move_y` on its 16-bit port (D1, D15). -/
def evMoveY (s : State) : BitVec Config.moveW := BitVec.ofInt Config.moveW s.ev.moveY

/-- `ev_move_z` on its 16-bit port (D1, D15). -/
def evMoveZ (s : State) : BitVec Config.moveW := BitVec.ofInt Config.moveW s.ev.moveZ

/-- The levels the host puts on `DATA` in a trace, in order: a drive's level, 1 for a release. -/
def dataLine : List Event → List Level
  | [] => []
  | .drive .data v :: rest => v :: dataLine rest
  | .release .data :: rest => true :: dataLine rest
  | .drive .clock _ :: rest => dataLine rest
  | .release .clock :: rest => dataLine rest
  | .sample _ _ :: rest => dataLine rest
  | .delay _ :: rest => dataLine rest
  | .wait _ _ _ _ _ :: rest => dataLine rest

end Sys2Proof.Machine
end

