-- ==== Sys2Proof/Safety.lean ====
section
/-! DEFINITION. What a safe run of the block is, in the terms the statements use: the invariants of its lines, of its
control state and of its registers, the lines an operation may leave, and the traces of a transfer that succeeds. -/

namespace Sys2Proof.Machine

/-! ## Lines at rest (10_state.md R21) -/

/-- A released line has `out` = 1 (R21, R44). -/
abbrev pinRested (p : Pin) : Prop := p.mode = .released → p.out = true

/-- Both lines do. -/
abbrev LinesRested (s : State) : Prop := pinRested s.clock ∧ pinRested s.data

/-! ## Nesting of operations (10_state.md R33) -/

/-- The operations that have control points. -/
inductive Operation where
  | wait
  | send
  | receive
  | exchangeByte
  | read
  | begin_
  | update
  deriving DecidableEq, Repr

/-- The operation a control point belongs to (R34 to R38). -/
def operationOf : Point → Operation
  | .w0 _ _ | .w1 _ _ | .w2 _ _ => .wait
  | .s0 _ | .s1 | .s2 | .s3 | .s4 | .s5 | .s6 | .s7 | .s8 | .s9 | .s10 | .s11 | .s12 | .s13 | .s14 => .send
  | .v0 | .v1 | .v2 | .v3 | .v4 | .v5 | .v6 => .receive
  | .a0 _ | .a1 => .exchangeByte
  | .d0 => .read
  | .b0 | .b1 | .b2 | .b3 | .b4 => .begin_
  | .u0 | .u1 | .u2 => .update

/-- The operation a control point calls, if it calls one (R35 to R38). -/
def calls : Point → Option Operation
  | .s8 | .s10 | .s11 | .s13 | .v3 | .v4 => some .wait
  | .a0 _ => some .send
  | .a1 | .d0 => some .receive
  | .b1 | .u0 => some .exchangeByte
  | .b2 | .u1 => some .read
  | .b4 => some .update
  | .w0 _ _ | .w1 _ _ | .w2 _ _ | .s0 _ | .s1 | .s2 | .s3 | .s4 | .s5 | .s6 | .s7 | .s9 | .s12 | .s14
  | .v0 | .v1 | .v2 | .v5 | .v6 | .b0 | .b3 | .u2 => none

/-- Every active operation but the outermost was called by the point just below it. -/
def nestedCalls : List Point → Prop
  | [] => True
  | [_] => True
  | child :: caller :: rest => calls caller = some (operationOf child) ∧ nestedCalls (caller :: rest)

/-- The control state is a legal nest of operations; an idle block has no value to hand on (R33). -/
def NestingLegal (s : State) : Prop := nestedCalls s.ctl.stack ∧ (s.ctl.stack = [] → s.ctl.ret = none)

/-! ## Lines at each control point (41_byte_transport.md R125) -/

/-- What the lines are when a control point is reached (R110, R117). -/
def pointLines (p : Point) (s : State) : Prop :=
  match p with
  | .w0 l _ | .w1 l _ | .w2 l _ => (readPin l s).mode = .released
  | .s1 => s.data.mode = .released
  | .s2 | .s3 => s.clock.mode = .released ∧ s.data.mode = .released
  | .s8 | .s9 => s.clock.mode = .released
  | .s10 | .s11 => s.clock.mode = .released ∧ (9 ≤ s.i → s.data.mode = .released)
  | .s12 | .s13 | .s14 => s.clock.mode = .released ∧ s.data.mode = .released
  | .v1 => s.clock.mode = .released
  | .v2 | .v3 | .v4 | .v5 | .v6 => s.clock.mode = .released ∧ s.data.mode = .released
  | .s0 _ | .s4 | .s5 | .s6 | .s7 | .v0 | .a0 _ | .a1 | .d0 | .b0 | .b1 | .b2 | .b3 | .b4 | .u0 | .u1 | .u2 => True

/-- The lines are right for every active operation, in a legal nest. -/
def LinesFit (s : State) : Prop := NestingLegal s ∧ ∀ p ∈ s.ctl.stack, pointLines p s

/-! ## Widths (10_state.md R24 to R32, 30_encoding.md R95) -/

/-- A result code of the block (60_exceptions.md R170: −101..255). -/
abbrev codeFits (v : Int) : Prop := -101 ≤ v ∧ v ≤ 255

/-- A motion value that carries information (30_encoding.md R82: −256..255). -/
abbrev motionFits (v : Int) : Prop := -256 ≤ v ∧ v ≤ 255

/-- Bounds that hold at a control point on the way (R29 in a wait, R28 in a receive). -/
def pointRanges (p : Point) (s : State) : Prop :=
  match p with
  | .w1 _ _ | .w2 _ _ => s.count ≤ Config.waitCeiling
  | .v3 | .v4 | .v5 => s.ones ≤ s.i - 1
  | .w0 _ _ | .s0 _ | .s1 | .s2 | .s3 | .s4 | .s5 | .s6 | .s7 | .s8 | .s9 | .s10 | .s11 | .s12 | .s13 | .s14
  | .v0 | .v1 | .v2 | .v6 | .a0 _ | .a1 | .d0 | .b0 | .b1 | .b2 | .b3 | .b4 | .u0 | .u1 | .u2 => True

/-- While a payload read is active or has just returned, `k` has not reached the payload's length (R38 point B2). -/
def payloadRanges (s : State) : Prop :=
  match s.ctl.stack, s.ctl.ret with
  | .b2 :: rest, none => .b2 ∈ rest → s.k ≤ 2
  | stack, _ => .b2 ∈ stack → s.k ≤ 2

/-- No register holds more than its width (R95). -/
structure RangesFit (s : State) : Prop where
  nesting : NestingLegal s
  i : s.i ≤ 10
  ones : s.ones ≤ 8
  count : s.count ≤ Config.maxSamples
  seq : s.seq ≤ 6
  k : s.k ≤ 3
  result : codeFits s.result
  moveX : motionFits s.ev.moveX
  moveY : motionFits s.ev.moveY
  moveZ : -32768 ≤ s.ev.moveZ ∧ s.ev.moveZ ≤ 32767
  ret : ∀ v, s.ctl.ret = some v → codeFits v
  points : ∀ p ∈ s.ctl.stack, pointRanges p s
  payload : payloadRanges s

/-! ## What the session puts on the wire (43_commands.md R165) -/

/-- The five values the device session can send (R165). -/
def sessionBytes : List Byte := [0xFF, 0xE9, 0xF6, 0xF0, 0xEB]

/-- The byte a control point sends or is about to send is one of them. -/
def pointSends (p : Point) (s : State) : Prop :=
  match p with
  | .a0 b | .s0 b => b ∈ sessionBytes
  | .s1 | .s2 | .s3 | .s4 | .s5 | .s6 | .s7 | .s8 | .s9 | .s10 | .s11 | .s12 | .s13 | .s14 => s.txb ∈ sessionBytes
  | .w0 _ _ | .w1 _ _ | .w2 _ _ | .v0 | .v1 | .v2 | .v3 | .v4 | .v5 | .v6 | .a1 | .d0
  | .b0 | .b1 | .b2 | .b3 | .b4 | .u0 | .u1 | .u2 => True

/-- The caller's operation, the outermost one, is `begin` or `update`. -/
def inSession (s : State) : Prop :=
  ∃ p, s.ctl.stack.getLast? = some p ∧ (operationOf p = .begin_ ∨ operationOf p = .update)

/-- Inside `begin` and `update` only the five values are sent (R165). -/
def SessionSendsOnlyItsList (s : State) : Prop :=
  s.seq ≤ 6 ∧ (inSession s → ∀ p ∈ s.ctl.stack, pointSends p s)

/-! ## What an operation leaves alone and what lines it leaves -/

/-- Everything that is not the byte transport's is as it was; the device's entries are used up from the front, and the
trace grows at its end. -/
structure SameSession (s t : State) : Prop where
  rep : t.rep = s.rep
  ev : t.ev = s.ev
  seq : t.seq = s.seq
  k : t.k = s.k
  ctl : t.ctl = s.ctl
  done : t.done = s.done
  inbox : t.inbox = s.inbox
  draws : t.draws = s.draws
  device : ∃ n, t.device = s.device.drop n
  trace : ∃ es, t.trace = s.trace ++ es

/-- `released`, `out` = 1. -/
def releasedPin : Pin := ⟨.released, true⟩

/-- `driven` to a level. -/
def drivenPin (v : Level) : Pin := ⟨.driven, v⟩

/-- The exits of `sendByte(b)` with the lines each leaves (60_exceptions.md R186). -/
inductive SendExit (b : Byte) (t : State) : Prop where
  | ok (h : t.result = 0) (hc : t.clock = drivenPin false) (hd : t.data = releasedPin)
  | clkFall (h : t.result = Config.txErrClkFall) (hc : t.clock = releasedPin) (hd : t.data = drivenPin false)
  | dataBit (n : Nat) (hn : n ≤ 7) (h : t.result = Config.txErrBitHigh n ∨ t.result = Config.txErrBitLow n)
      (hc : t.clock = releasedPin) (hd : t.data = drivenPin (bitOf b n))
  | parityBit (h : t.result = Config.txErrBitHigh 8 ∨ t.result = Config.txErrBitLow 8)
      (hc : t.clock = releasedPin) (hd : t.data = drivenPin (oddParity b))
  | stopBit (h : t.result = Config.txErrBitHigh 9 ∨ t.result = Config.txErrBitLow 9)
      (hc : t.clock = releasedPin) (hd : t.data = releasedPin)
  | noAck (h : t.result = Config.txErrAck) (hc : t.clock = releasedPin) (hd : t.data = releasedPin)
  | endClk (h : t.result = Config.txErrEndClk) (hc : t.clock = releasedPin) (hd : t.data = releasedPin)

/-- The exits of `receiveByte()` with the lines each leaves (R186). -/
inductive RecvExit (t : State) : Prop where
  | byte (b : Byte) (h : t.result = (b.toNat : Int)) (hc : t.clock = drivenPin false) (hd : t.data = releasedPin)
  | start (h : t.result = Config.rxErrStart) (hc : t.clock = releasedPin) (hd : t.data = releasedPin)
  | parity (h : t.result = Config.rxErrParity) (hc : t.clock = releasedPin) (hd : t.data = releasedPin)
  | stop (h : t.result = Config.rxErrStop) (hc : t.clock = releasedPin) (hd : t.data = releasedPin)
  | clk (n : Nat) (hn : n ≤ 10) (h : t.result = Config.rxErrClkLow n ∨ t.result = Config.rxErrClkHigh n)
      (hc : t.clock = releasedPin) (hd : t.data = releasedPin)

/-! ## Samples one after the other -/

/-- The state after `n` samples of a line. -/
def afterSamples (l : Line) : Nat → State → State
  | 0, s => s
  | n + 1, s => afterSamples l n (look l s).2

/-- The level sample number `n` of a line returns, counted from 0. -/
def levelAtSample (l : Line) (n : Nat) (s : State) : Level := (look l (afterSamples l n s)).1

/-- The device pulls `CLOCK` at none of the samples a wait can take. -/
def clockNeverPulled (s : State) : Prop := ∀ n < Config.maxSamples, (s.device.getD n ⟨false, false⟩).clock = false

/-- The event of a wait for `CLOCK` = 0 that fails: `MAX_SAMPLES` samples, a pause between each two (R104). -/
def clockNeverFell : Event :=
  .wait .clock false false Config.maxSamples (Config.waitCeiling * Config.tPoll)

/-! ## Traces of transfers that succeed (41_byte_transport.md R110, R117; 95_test_vectors.md T1, T2) -/

/-- A wait on `CLOCK` that succeeds after `lag` samples of the other level. -/
def waited (lag : Nat) (v : Level) : Event := waitEvent .clock v true lag

/-- One clock cycle of the bit loop. -/
def cycleTrace (lag : Nat) : List Event := [waited lag true, waited lag false]

/-- Driving `DATA` through slots of the bit loop. -/
def drivesTrace (lag : Nat) : List Level → List Event
  | [] => []
  | v :: rest => .drive .data v :: (cycleTrace lag ++ drivesTrace lag rest)

/-- The events of a successful send of `b`. -/
def sendTrace (lag : Nat) (b : Byte) : List Event :=
  [.release .data, .release .clock, .delay 300, .drive .clock false, .delay 200, .drive .data false, .delay 10,
    .release .clock, waited lag false] ++
  drivesTrace lag [bitOf b 0, bitOf b 1, bitOf b 2, bitOf b 3, bitOf b 4, bitOf b 5, bitOf b 6, bitOf b 7, oddParity b] ++
  [.release .data, .delay 50] ++ cycleTrace lag ++ [.sample .data false, waited lag true, .drive .clock false]

/-- The events of the slots of a receive. -/
def slotsTrace (lag : Nat) : List Level → List Event
  | [] => []
  | d :: rest => waited lag false :: waited lag true :: .sample .data d :: slotsTrace lag rest

/-- The events of a successful receive of `b`. -/
def recvTrace (lag : Nat) (b : Byte) : List Event :=
  [.release .clock, .release .data, .delay 10] ++ slotsTrace lag (txFrame b) ++ [.drive .clock false]

/-- The waits among events. -/
def isWait : Event → Bool
  | .wait _ _ _ _ _ => true
  | .release _ | .drive _ _ | .sample _ _ | .delay _ => false

/-! ## A device that answers the initialisation list (42_device_session.md R131 to R134) -/

/-- The payload bytes a device gives after entry `n` of the list: `pay n 0`, `pay n 1`, .... -/
def payloadOf (pay : Nat → Nat → Byte) (n : Nat) : List Byte := (List.range (payloadAt n)).map (pay n)

/-- A device that acknowledges these entries of the list and answers each with its payload. -/
def initAnswers (lag : Nat) (pay : Nat → Nat → Byte) : List Nat → List Pulls
  | [] => []
  | n :: rest => exchAnswers lag Config.ackCode (payloadOf pay n) ++ initAnswers lag pay rest

/-- What the host puts on `DATA` in one exchange: the frame of the command after the release that begins the send, then
one release for each of the `reads` receives. -/
def exchangeLine (b : Byte) (reads : Nat) : List Level := (true :: txFrame b) ++ List.replicate reads true

/-- What the host puts on `DATA` in these entries of the list. -/
def initLine : List Nat → List Level
  | [] => []
  | n :: rest => exchangeLine (initAt n) (payloadAt n + 1) ++ initLine rest

/-- The requests without an operand: their words differ in nothing but an `op_arg` that is not looked at (30_encoding.md
R86). -/
def bareRequests : List Instr := [.opBegin, .opUpdate, .opRecv, .opRead, .reserved0, .reserved6, .reserved7]

/-- The event a report decodes to, `moveZ` aside (30_encoding.md R76, R82). -/
structure DecodesReport (r : Report) (e : MouseEvent) : Prop where
  left : e.btnLeft = r.b0.getLsbD 0
  right : e.btnRight = r.b0.getLsbD 1
  center : e.btnCenter = r.b0.getLsbD 2
  x : e.moveX = (r.b1.toNat : Int) - 256 * ((r.b0.getLsbD 4).toNat : Int)
  y : e.moveY = (r.b2.toNat : Int) - 256 * ((r.b0.getLsbD 5).toNat : Int)

/-! ## The control points against the pseudocode -/

/-- Started at its first control point and left to run, the operation of these codes ends in the state its meaning gives
when it is called, for every device: the tables of 10_state.md R34 to R38 and the pseudocode of 40_line_transport.md R104,
41_byte_transport.md R110, R117, R121, R122 and 42_device_session.md R135, R143 are the same machine. -/
def startEndsAsCall (sels : List (BitVec 4)) : Prop :=
  ∀ (s : State) (sel : BitVec 4) (arg : Byte), sel ∈ sels → s.ctl = .idle →
    ∃ (n : Nat) (t : State),
      Host.Core.run Sys2Proof.core n { s with inbox := [.start sel arg] } = .next t ∧
      step { s with inbox := [.call sel arg] } = .next t ∧ t.ctl = .idle ∧ t.done = true

end Sys2Proof.Machine
end

