-- ==== Sys2Proof/Certificates/Slice0/Obligations.lean ====
section
/-! DEFINITION. The statements for the provers, from the numbered rules of spec/. -/

open Sys2Proof Sys2Proof.Machine

/-! ## Reset, steps, requests -/

/-- 10_state.md R44: what the spec fixes after reset; the block is idle and a step of it changes nothing (R192). -/
def Obligations.ResetReleasesBothLinesAndIsIdle : Prop :=
  State.reset.clock = releasedPin ∧ State.reset.data = releasedPin ∧ State.reset.ctl = .idle ∧
    step State.reset = .next State.reset

/-- 70_reset_and_hazards.md R201: reset at any point, in mid-operation too. -/
def Obligations.ResetEndsTheOperationAndReleasesLines : Prop :=
  ∀ (s : State) (rest : List Input), s.inbox = .reset :: rest →
    ∃ t, step s = .next t ∧ t.clock = releasedPin ∧ t.data = releasedPin ∧ t.ctl = .idle ∧ t.done = false ∧
      t.trace = [] ∧ t.device = s.device ∧ t.inbox = rest

/-- A step of an idle block runs the instruction the arriving word decodes to, on the state that has taken it, or begins it
at its first control point when it is started that way; a word that decodes to none is turned away by its reason, one that
arrives as the wrong kind of request as such. With nothing arriving, or an item that the device shows unasked, a step is
one tick of the control points, and an idle block stays as it is (60_exceptions.md R174, R192). -/
def Obligations.StepRunsTheDecodedInstruction : Prop :=
  (∀ (s : State) (rest : List Input) (i : Instr), s.ctl.stack = [] →
    (∀ w, s.inbox = .issue w :: rest → isItem w.format = false → decode w = .ok i →
      step s = exec i { s with inbox := rest, trace := [], valued := false, done := true }) ∧
    (∀ w, s.inbox = .transfer w :: rest → isItem w.format = true → decode w = .ok i →
      step s = exec i { s with inbox := rest, trace := [], valued := false, done := true }) ∧
    (∀ sel arg, s.inbox = .call sel arg :: rest → internalCode sel = false → decode (portWord sel arg) = .ok i →
      step s = exec i { s with inbox := rest, trace := [], valued := false, done := true }) ∧
    (∀ sel arg, s.inbox = .start sel arg :: rest → internalCode sel = false → decode (portWord sel arg) = .ok i →
      (startPoint i = none →
        step s = exec i { s with inbox := rest, trace := [], valued := false, done := true }) ∧
      ∀ p, startPoint i = some p →
        step s = .next
          { s with inbox := rest, trace := [], valued := false, done := false, ctl := ⟨[p], none⟩ })) ∧
  (∀ (s : State) (rest : List Input) (w : RawWord), s.ctl.stack = [] →
    (s.inbox = .issue w :: rest →
      (isItem w.format = true → step s = .refused .wrongKind) ∧
      (isItem w.format = false → ∀ e, decode w = .error e → step s = .refused (.undecodable e))) ∧
    (s.inbox = .transfer w :: rest →
      (isItem w.format = false → step s = .refused .wrongKind) ∧
      (isItem w.format = true → ∀ e, decode w = .error e → step s = .refused (.undecodable e)))) ∧
  ∀ s : State,
    (s.inbox = [] → step s = .next (tick s) ∧ (s.ctl.stack = [] → step s = .next s)) ∧
    ∀ rest, (s.inbox = .pass :: rest ∨ ∃ w, s.inbox = .shown w :: rest) →
      step s = .next (tick { s with inbox := rest }) ∧ (s.ctl.stack = [] → step s = .next { s with inbox := rest })

/-- 20_memory.md R62: nothing starts while an operation is active. -/
def Obligations.BusyBlockRefusesEveryStart : Prop :=
  ∀ (s : State) (rest : List Input), s.ctl.stack ≠ [] →
    (∀ sel arg, s.inbox = .call sel arg :: rest → step s = .refused .busy) ∧
    (∀ sel arg, s.inbox = .start sel arg :: rest → step s = .refused .busy) ∧
    (∀ w, s.inbox = .issue w :: rest → step s = .refused .busy) ∧
    (∀ w, s.inbox = .transfer w :: rest → step s = .refused .busy)

/-- 30_encoding.md R91: the reserved codes, by their meanings and as a caller presents them, and the internal codes. -/
def Obligations.ReservedAndInternalCodesAreRefused : Prop :=
  (∀ s, exec .reserved0 s = .refused (.reservedCode 0x0) ∧ exec .reserved6 s = .refused (.reservedCode 0x6) ∧
    exec .reserved7 s = .refused (.reservedCode 0x7)) ∧
  ∀ (s : State) (rest : List Input) (sel : BitVec 4) (arg : Byte), s.ctl.stack = [] →
    (s.inbox = .call sel arg :: rest ∨ s.inbox = .start sel arg :: rest) →
    (sel ∈ ([0x0, 0x6, 0x7] : List (BitVec 4)) → step s = .refused (.reservedCode sel)) ∧
    (sel ∈ ([0x5, 0xC, 0xD, 0xE, 0xF] : List (BitVec 4)) → step s = .refused (.internalCode sel))

/-- 70_reset_and_hazards.md R222: every meaning but the reserved codes' ends in a next state, whatever the device does. -/
def Obligations.EveryInstructionCompletes : Prop :=
  ∀ (i : Instr) (s : State), i ≠ .reserved0 → i ≠ .reserved6 → i ≠ .reserved7 → ∃ t, exec i s = .next t

/-! ## Line transport -/

/-- 40_line_transport.md R100, with its frame. -/
def Obligations.ReleaseFloatsTheLine : Prop :=
  ∀ (l : Line) (s : State), ∃ t, exec (.opRelease l) s = .next t ∧
    readPin l t = ⟨.released, true⟩ ∧ (∀ l', l' ≠ l → readPin l' t = readPin l' s) ∧
    t = { s with clock := t.clock, data := t.data, trace := s.trace ++ [.release l] }

/-- 40_line_transport.md R101, with its frame. -/
def Obligations.DriveForcesTheLevel : Prop :=
  ∀ (l : Line) (v : Level) (s : State), ∃ t, exec (.opDrive l v) s = .next t ∧
    readPin l t = ⟨.driven, v⟩ ∧ (∀ l', l' ≠ l → readPin l' t = readPin l' s) ∧
    t = { s with clock := t.clock, data := t.data, trace := s.trace ++ [.drive l v] }

/-- 40_line_transport.md R103: no state of the block changes; the event stands in the trace. -/
def Obligations.DelayChangesNoState : Prop :=
  ∀ (n : Nat) (s : State), exec (.opDelay n) s = .next { s with trace := s.trace ++ [.delay n] }

/-- 40_line_transport.md R102 and 10_state.md R22: the level read, and that reading changes no register but the result.
That an issued read leaves the level in `result` is the model's reading (log 17). In the contended case (U6) any level. -/
def Obligations.ReadLevelIsTheLineLevel : Prop :=
  ∀ (l : Line) (s : State), ∃ v : Level,
    (∃ t, exec (.opRdlvl l) s = .next t ∧
      t = { s with result := (v.toNat : Int), valued := true, device := s.device.tail,
                   trace := s.trace ++ [.sample l v], draws := t.draws }) ∧
    ((readPin l s).mode = .released → v = !pulledOf l (s.device.headD ⟨false, false⟩)) ∧
    ((readPin l s).mode = .driven →
      ((readPin l s).out = true → pulledOf l (s.device.headD ⟨false, false⟩) = false) → v = (readPin l s).out)

/-- 40_line_transport.md R104, in every line mode: the wait returns at the first of its at most `MAX_SAMPLES` samples
that is the expected level, else fails after all of them, with a pause of `T_POLL` between each two. -/
def Obligations.WaitEndsAtFirstMatchingSample : Prop :=
  ∀ (l : Line) (v : Level) (s : State),
    (∀ n < Config.maxSamples, levelAtSample l n s = v → (∀ m < n, levelAtSample l m s ≠ v) →
      exec (.opWait l v) s = .next
        { afterSamples l (n + 1) s with
          count := n, result := 1, valued := true,
          trace := s.trace ++ [.wait l v true (n + 1) (n * Config.tPoll)] }) ∧
    ((∀ n < Config.maxSamples, levelAtSample l n s ≠ v) →
      exec (.opWait l v) s = .next
        { afterSamples l Config.maxSamples s with
          count := Config.maxSamples, result := 0, valued := true,
          trace := s.trace ++ [.wait l v false Config.maxSamples (Config.waitCeiling * Config.tPoll)] })

/-! ## Byte transport: sends -/

/-- A send to a device that clocks it (lag polls late at each wait) and acknowledges: the whole next state
(41_byte_transport.md R110 to R116). -/
def Obligations.SendToAClockingDeviceSucceeds : Prop :=
  ∀ (s : State) (b : Byte) (lag : Nat) (rest : List Pulls),
    s.device = txAnswers lag false ++ rest → lag ≤ Config.waitCeiling →
    exec (.opSend b) s = .next
      { s with
        clock := ⟨.driven, false⟩, data := ⟨.released, true⟩, txb := b, i := 9, par := oddParity b, count := lag,
        result := 0, valued := true, device := rest, trace := s.trace ++ sendTrace lag b }

/-- 41_byte_transport.md R113: no clock fall. -/
def Obligations.SendWithoutClockFallAborts : Prop :=
  ∀ (s : State) (b : Byte), clockNeverPulled s →
    ∃ t, exec (.opSend b) s = .next t ∧ t.result = Config.txErrClkFall ∧ t.clock = releasedPin ∧
      t.data = drivenPin false ∧
      t = { s with clock := t.clock, data := t.data, txb := b, count := Config.maxSamples, result := t.result,
                   valued := true, device := s.device.drop Config.maxSamples,
                   trace := s.trace ++ [.release .data, .release .clock, .delay Config.tIdleSettle,
                     .drive .clock false, .delay Config.tClkHold, .drive .data false, .delay Config.tBitSettle,
                     .release .clock, clockNeverFell] }

/-- 30_encoding.md R88: a device that clocks the byte and leaves the ack slot at 1. -/
def Obligations.SendWithoutAckAborts : Prop :=
  ∀ (s : State) (b : Byte) (lag : Nat) (rest : List Pulls),
    s.device = txAnswers lag true ++ rest → lag ≤ Config.waitCeiling →
    ∃ t, exec (.opSend b) s = .next t ∧ t.result = Config.txErrAck ∧ t.clock = releasedPin ∧ t.data = releasedPin ∧
      t.device = clockPhase lag true ++ rest

/-- 60_exceptions.md R186: the lines every exit of a byte operation leaves, for every device. -/
def Obligations.ByteOperationsLeaveTheirLines : Prop :=
  ∀ (s : State) (b : Byte),
    (∃ t, exec (.opSend b) s = .next t ∧ SendExit b t) ∧
    (∃ t, exec .opRecv s = .next t ∧ RecvExit t) ∧
    (∃ t, exec (.opWra b) s = .next t ∧
      ((t.result = Config.wraErrSend ∧
          ∃ u, exec (.opSend b) s = .next u ∧ u.result < 0 ∧ t.clock = u.clock ∧ t.data = u.data) ∨
        (t.result = Config.wraErrRecv ∧ t.clock = releasedPin ∧ t.data = releasedPin) ∨
        (0 ≤ t.result ∧ t.clock = drivenPin false ∧ t.data = releasedPin)))

/-- 60_exceptions.md R173: which operation can return which code, and which return nothing: of those neither the result nor
its validity changes. -/
def Obligations.ReturnedCodesBelongToTheOperation : Prop :=
  ∀ (s : State) (b : Byte),
    (∃ t, exec (.opSend b) s = .next t ∧ t.valued = true ∧
      (t.result = Config.txOk ∨ t.result = Config.txErrClkFall ∨ t.result = Config.txErrAck ∨
        t.result = Config.txErrEndClk ∨
        ∃ n ≤ 9, t.result = Config.txErrBitHigh n ∨ t.result = Config.txErrBitLow n)) ∧
    (∃ t, exec .opRecv s = .next t ∧ exec .opRead s = .next t ∧ t.valued = true ∧
      ((0 ≤ t.result ∧ t.result ≤ 255) ∨ t.result = Config.rxErrStart ∨ t.result = Config.rxErrParity ∨
        t.result = Config.rxErrStop ∨
        ∃ n ≤ 10, t.result = Config.rxErrClkLow n ∨ t.result = Config.rxErrClkHigh n)) ∧
    (∃ t, exec (.opWra b) s = .next t ∧ t.valued = true ∧
      ((0 ≤ t.result ∧ t.result ≤ 255) ∨ t.result = Config.wraErrSend ∨ t.result = Config.wraErrRecv)) ∧
    (∃ t, exec .opBegin s = .next t ∧ t.valued = true ∧ (t.result = 0 ∨ t.result = 1)) ∧
    (∀ i ∈ ([.opUpdate, .opSetRes b, .opSetRate b] : List Instr),
      ∃ t, exec i s = .next t ∧ t.result = s.result ∧ t.valued = s.valued)

/-- What the byte operations leave alone, for every device. -/
def Obligations.ByteOperationsKeepTheSession : Prop :=
  ∀ (s : State) (b : Byte),
    (∃ t, exec (.opSend b) s = .next t ∧ SameSession s t ∧ t.txb = b ∧ t.acc = s.acc ∧ t.ones = s.ones) ∧
    (∃ t, exec .opRecv s = .next t ∧ SameSession s t ∧ t.txb = s.txb ∧ t.par = s.par) ∧
    (∃ t, exec .opRead s = .next t ∧ SameSession s t ∧ t.txb = s.txb ∧ t.par = s.par) ∧
    (∃ t, exec (.opWra b) s = .next t ∧ SameSession s t ∧ t.txb = b)

/-- 41_byte_transport.md R111, R117: an operation starts by releasing both lines, so what the one before left on them
changes nothing. -/
def Obligations.LeftoverLineModesDoNotMatter : Prop :=
  ∀ (s : State) (p q : Pin) (b : Byte),
    exec (.opSend b) { s with clock := p, data := q } = exec (.opSend b) s ∧
    exec .opRecv { s with clock := p, data := q } = exec .opRecv s ∧
    exec .opRead { s with clock := p, data := q } = exec .opRead s ∧
    exec (.opWra b) { s with clock := p, data := q } = exec (.opWra b) s ∧
    exec .opUpdate { s with clock := p, data := q } = exec .opUpdate s ∧
    exec .opBegin { s with clock := p, data := q } = exec .opBegin s

/-- 30_encoding.md R81 and R71: what a transfer puts on `DATA`, and how the ack slot decides it. -/
def Obligations.HostFrameCarriesTheByte : Prop :=
  ∀ (s : State) (b : Byte) (ack : Level),
    ∃ t es, exec (.frameH2D b ack) s = .next t ∧ t.trace = s.trace ++ es ∧
      dataLine es = [true, false, b.getLsbD 0, b.getLsbD 1, b.getLsbD 2, b.getLsbD 3, b.getLsbD 4, b.getLsbD 5,
        b.getLsbD 6, b.getLsbD 7, oddParity b, true] ∧
      t.result = (if ack then Config.txErrAck else Config.txOk) ∧ t.data = releasedPin ∧
      t.clock = (if ack then releasedPin else drivenPin false) ∧ t.txb = b ∧
      t.device = (if ack then clockPhase 0 true ++ s.device else s.device) ∧ SameSession { s with device := t.device } t

/-! ## Byte transport: receives -/

/-- A receive of a byte from a device that clocks it: the whole next state (41_byte_transport.md R117 to R120, R122). -/
def Obligations.ReceiveAssemblesTheByte : Prop :=
  ∀ (s : State) (b : Byte) (lag : Nat) (rest : List Pulls),
    s.device = byteAnswers lag b ++ rest → lag ≤ Config.waitCeiling →
    ∃ t, exec .opRecv s = .next t ∧ exec .opRead s = .next t ∧
      t = { s with
            clock := ⟨.driven, false⟩, data := ⟨.released, true⟩, i := 10, acc := b, ones := popcount b,
            count := lag, result := (b.toNat : Int), valued := true, device := rest,
            trace := s.trace ++ recvTrace lag b }

/-- 30_encoding.md R87: every one of the 2048 slot patterns, valid or not, as a device clocks it in (lag polls late at each
wait): the slot at which the receive aborts, what it leaves of the device's answers for the next receive, and the byte only
when start, parity and stop are all right. -/
def Obligations.ReceiveRejectsIllegalFramesAtTheirSlot : Prop :=
  ∀ (s : State) (start parity stop : Level) (data : Byte) (lag : Nat) (rest : List Pulls),
    s.device = rxAnswers lag (frameSlots start data parity stop) ++ rest → lag ≤ Config.waitCeiling →
    ∃ t, exec .opRecv s = .next t ∧
      (if start = true then
        t.result = Config.rxErrStart ∧ t.i = 0 ∧
          t.device = rxAnswers lag ((frameSlots start data parity stop).drop 1) ++ rest
      else if parity ≠ oddParity data then
        t.result = Config.rxErrParity ∧ t.i = 9 ∧ t.device = rxAnswers lag [stop] ++ rest
      else if stop = false then t.result = Config.rxErrStop ∧ t.i = 10 ∧ t.device = rest
      else t.result = (data.toNat : Int) ∧ t.i = 10 ∧ t.device = rest) ∧
      t.data = releasedPin ∧ t.clock = (if t.result < 0 then releasedPin else drivenPin false) ∧ SameSession s t

/-- A frame on the wire is the receive of its slots from a device that clocks them at once (30_encoding.md R70; log 9: the
meaning of a frame as an item is the model's choice), and it always completes. -/
def Obligations.DeviceFrameIsTheReceiveOfItsSlots : Prop :=
  ∀ (s : State) (start parity stop : Level) (data : Byte),
    ∃ t, exec (.frameD2H start data parity stop) s = .next t ∧
      exec .opRecv { s with device := rxAnswers 0 (frameSlots start data parity stop) ++ s.device } = .next t ∧
      (validFrame start data parity stop = true ↔ 0 ≤ t.result) ∧
      (0 ≤ t.result → t.result = (data.toNat : Int) ∧ t.device = s.device)

/-- 41_byte_transport.md R124: the round trip, and that no single wrong slot goes unseen. -/
def Obligations.FrameRoundTripAndSingleErrors : Prop :=
  ∀ (s : State) (b : Byte),
    (∃ t, exec (.frameD2H false b (oddParity b) true) s = .next t ∧ t.result = (b.toNat : Int)) ∧
    (∃ t, exec (.frameD2H true b (oddParity b) true) s = .next t ∧ t.result = Config.rxErrStart) ∧
    (∀ n < 8, ∃ t, exec (.frameD2H false (b ^^^ (1#8 <<< n)) (oddParity b) true) s = .next t ∧
      t.result = Config.rxErrParity) ∧
    (∃ t, exec (.frameD2H false b (!oddParity b) true) s = .next t ∧ t.result = Config.rxErrParity) ∧
    (∃ t, exec (.frameD2H false b (oddParity b) false) s = .next t ∧ t.result = Config.rxErrStop)

/-- A receive from a device that never lowers the clock (41_byte_transport.md R117, last corner case). -/
def Obligations.ReceiveWithoutClockAborts : Prop :=
  ∀ s : State, clockNeverPulled s →
    ∃ t, exec .opRecv s = .next t ∧ t.result = Config.rxErrClkLow 0 ∧ t.clock = releasedPin ∧ t.data = releasedPin ∧
      t = { s with clock := t.clock, data := t.data, i := 0, acc := 0, ones := 0, count := Config.maxSamples,
                   result := t.result, valued := true, device := s.device.drop Config.maxSamples,
                   trace := s.trace ++ [.release .clock, .release .data, .delay Config.tRxSettle, clockNeverFell] }

/-- 43_commands.md R164: the response 0xFA is received as the byte 250. -/
def Obligations.AckIsReceivedAsItsByte : Prop :=
  ∀ s : State, exec .rspAck s = .next
    { s with
      clock := ⟨.driven, false⟩, data := ⟨.released, true⟩, i := 10, acc := 0xFA, ones := 6, count := 0,
      result := 250, valued := true,
      trace := s.trace ++ recvTrace 0 0xFA }

/-! ## writeAndReadAck -/

/-- 41_byte_transport.md R121: send, then receive, then the sentinel of the phase that failed or the byte. -/
def Obligations.WriteAndReadAckIsSendThenReceive : Prop :=
  ∀ (s t : State) (b : Byte), exec (.opSend b) s = .next t →
    (t.result < 0 → exec (.opWra b) s = .next { t with result := Config.wraErrSend }) ∧
    (0 ≤ t.result → ∃ u, exec .opRecv t = .next u ∧
      (u.result < 0 → exec (.opWra b) s = .next { u with result := Config.wraErrRecv }) ∧
      (0 ≤ u.result → exec (.opWra b) s = .next u))

/-- An exchange that works returns the reply, whatever byte it is (41_byte_transport.md R121). -/
def Obligations.WriteAndReadAckReturnsTheReply : Prop :=
  ∀ (s : State) (b a : Byte) (lag : Nat) (rest : List Pulls),
    s.device = exchAnswers lag a [] ++ rest → lag ≤ Config.waitCeiling →
    exec (.opWra b) s = .next
      { s with
        clock := ⟨.driven, false⟩, data := ⟨.released, true⟩, txb := b, i := 10, par := oddParity b, acc := a,
        ones := popcount a, count := lag, result := (a.toNat : Int), valued := true, device := rest,
        trace := s.trace ++ sendTrace lag b ++ recvTrace lag a }

/-! ## Command bytes -/

/-- The five commands the block sends, with the frames and payload lengths of 43_commands.md R150 to R154: acknowledged,
their payload is read and thrown away; answered with another byte, nothing more is read. Either way the value is the
answer (log 8). -/
def Obligations.SentCommandsReadTheirPayload : Prop :=
  ∀ (s : State) (lag : Nat) (a : Byte) (payload : List Byte) (rest : List Pulls) (i : Instr) (b : Byte)
    (frame : List Level),
    (i, b, frame, payload.length) ∈
      ([(.cmdReset, 0xFF, [false, true, true, true, true, true, true, true, true, true, true], 2),
        (.cmdSetDefaults, 0xF6, [false, false, true, true, false, true, true, true, true, true, true], 0),
        (.cmdSetRemoteMode, 0xF0, [false, false, false, false, false, true, true, true, true, true, true], 0),
        (.cmdStatusRequest, 0xE9, [false, true, false, false, true, false, true, true, true, false, true], 3),
        (.cmdReadData, 0xEB, [false, true, true, false, true, false, true, true, true, true, true], 3)] :
        List (Instr × Byte × List Level × Nat)) →
    s.device = exchAnswers lag a payload ++ rest → lag ≤ Config.waitCeiling →
    ∃ t es, exec i s = .next t ∧ t.trace = s.trace ++ es ∧ t.txb = b ∧ t.par = oddParity b ∧ t.rep = s.rep ∧
      t.ev = s.ev ∧ t.seq = s.seq ∧ t.ctl = s.ctl ∧ t.inbox = s.inbox ∧ t.done = s.done ∧ t.draws = s.draws ∧
      t.clock = drivenPin false ∧ t.data = releasedPin ∧ t.result = (a.toNat : Int) ∧ t.valued = true ∧
      (a = 0xFA → t.device = rest ∧ t.k = payload.length ∧
        dataLine es = (true :: frame) ++ List.replicate (payload.length + 1) true) ∧
      (a ≠ 0xFA → t.device = bytesAnswers lag payload ++ rest ∧ t.k = s.k ∧
        dataLine es = (true :: frame) ++ [true])

/-- The nine commands the block never sends by itself, with the frames of 43_commands.md R155 to R163: the byte is framed,
one reply byte is read, and nothing else happens; the whole next state. -/
def Obligations.InertCommandsAreOpaqueBytes : Prop :=
  ∀ (s : State) (lag : Nat) (a b : Byte) (rest : List Pulls) (i : Instr) (frame : List Level),
    (i, b, frame) ∈
      ([(.cmdResend, 0xFE, [false, false, true, true, true, true, true, true, true, false, true]),
        (.cmdDisableDataReporting, 0xF5, [false, true, false, true, false, true, true, true, true, true, true]),
        (.cmdEnableDataReporting, 0xF4, [false, false, false, true, false, true, true, true, true, false, true]),
        (.cmdSetSampleRate, 0xF3, [false, true, true, false, false, true, true, true, true, true, true]),
        (.cmdGetDeviceId, 0xF2, [false, false, true, false, false, true, true, true, true, false, true]),
        (.cmdSetWrapMode, 0xEE, [false, false, true, true, true, false, true, true, true, true, true]),
        (.cmdResetWrapMode, 0xEC, [false, false, false, true, true, false, true, true, true, false, true]),
        (.cmdSetStreamMode, 0xEA, [false, false, true, false, true, false, true, true, true, false, true]),
        (.cmdSetResolution, 0xE8, [false, false, false, false, true, false, true, true, true, true, true])] :
        List (Instr × Byte × List Level)) →
    s.device = exchAnswers lag a [] ++ rest → lag ≤ Config.waitCeiling →
    exec i s = .next
      { s with
        clock := ⟨.driven, false⟩, data := ⟨.released, true⟩, txb := b, i := 10, par := oddParity b, acc := a,
        ones := popcount a, count := lag, result := (a.toNat : Int), valued := true, device := rest,
        trace := s.trace ++ sendTrace lag b ++ recvTrace lag a } ∧
      dataLine (sendTrace lag b) = true :: frame

/-! ## update and the report -/

/-- 42_device_session.md R136: `update` begins by calling `writeAndReadAck(0xEB)` and goes on to its report reads
whatever that returned. -/
def Obligations.UpdateIgnoresTheAcknowledgment : Prop :=
  startPoint .opUpdate = some .u0 ∧ ∀ (s : State) (rest : List Point), s.inbox = [] →
    (s.ctl = ⟨.u0 :: rest, none⟩ → step s = .next { s with ctl := ⟨.a0 0xEB :: .u0 :: rest, none⟩ }) ∧
    ∀ v : Int, s.ctl = ⟨.u0 :: rest, some v⟩ → step s = .next { s with k := 0, ctl := ⟨.u1 :: rest, none⟩ }

/-- A report read by an `update` whose four transfers work, whatever byte answers the command (42_device_session.md R136,
R138, R143). The flag positions are decision D10 (log 19). -/
def Obligations.UpdateDecodesTheReport : Prop :=
  ∀ (s : State) (a x y z : Byte) (lag : Nat) (rest : List Pulls),
    s.device = exchAnswers lag a [x, y, z] ++ rest → lag ≤ Config.waitCeiling →
    ∃ t es, exec .opUpdate s = .next t ∧ t.rep = ⟨x, y, z, s.rep.b3⟩ ∧ DecodesReport ⟨x, y, z, s.rep.b3⟩ t.ev ∧
      t.result = s.result ∧ t.valued = s.valued ∧ t.device = rest ∧ t.seq = s.seq ∧ t.ctl = s.ctl ∧
      t.inbox = s.inbox ∧ t.done = s.done ∧ t.clock = drivenPin false ∧ t.data = releasedPin ∧
      t.trace = s.trace ++ es ∧ dataLine es = exchangeLine 0xEB 4

/-- 42_device_session.md R138, R139, R140, R142, R144, for every device: the event an `update` leaves is the decode of the
report registers it leaves (`moveZ` aside); `rep[3]`, `seq` and the control state stay. No code comes out of it, so its caller sees no result and cannot tell
a failed one (60_exceptions.md R178, 70_reset_and_hazards.md R212). At the control points: each of the three report reads
that gives a byte stores it in its own register, a failed one touches no other register, and the next read or the decode
follows either way. -/
def Obligations.UpdateAlwaysDecodesItsRegisters : Prop :=
  (∀ s : State, ∃ t, exec .opUpdate s = .next t ∧ DecodesReport t.rep t.ev ∧ t.rep.b3 = s.rep.b3 ∧ t.seq = s.seq ∧
    t.ctl = s.ctl ∧ t.inbox = s.inbox ∧ t.done = s.done ∧ t.result = s.result ∧ t.valued = s.valued) ∧
  (∀ (s : State) (arg : Byte) (rest : List Input), s.ctl = .idle → s.inbox = .call 0x2 arg :: rest →
    ∃ t, step s = .next t ∧ opResult t = none ∧ opDone t = true ∧ callerEvent t = some t.ev) ∧
  ∀ (s : State) (rest : List Point), s.inbox = [] →
    (s.ctl = ⟨.u1 :: rest, none⟩ → step s = .next { s with ctl := ⟨.d0 :: .u1 :: rest, none⟩ }) ∧
    (∀ v : Int, s.ctl = ⟨.u1 :: rest, some v⟩ → s.k ≤ 2 →
      ∃ t, step s = .next t ∧
        t = { s with rep := t.rep, draws := t.draws, k := t.k, ctl := t.ctl } ∧
        (∀ b : Byte, v = (b.toNat : Int) → t.draws = s.draws ∧
          (s.k = 0 → t.rep = { s.rep with b0 := b }) ∧
          (s.k = 1 → t.rep = { s.rep with b1 := b }) ∧
          (s.k = 2 → t.rep = { s.rep with b2 := b })) ∧
        (v < 0 →
          (s.k = 0 → t.rep = { s.rep with b0 := t.rep.b0 }) ∧
          (s.k = 1 → t.rep = { s.rep with b1 := t.rep.b1 }) ∧
          (s.k = 2 → t.rep = { s.rep with b2 := t.rep.b2 })) ∧
        (s.k < 2 → t.k = s.k + 1 ∧ t.ctl = ⟨.u1 :: rest, none⟩) ∧
        (s.k = 2 → t.k = 2 ∧ t.ctl = ⟨.u2 :: rest, none⟩)) ∧
    (s.ctl = ⟨.u2 :: rest, none⟩ →
      ∃ t, step s = .next t ∧ DecodesReport s.rep t.ev ∧
        t = { s with ev := t.ev, draws := t.draws, ctl := t.ctl, done := t.done } ∧
        (rest = [] → t.ctl = .idle ∧ t.done = true) ∧
        (rest ≠ [] → t.ctl.stack = rest ∧ t.ctl.ret.isSome = true ∧ t.done = s.done))

/-- `update` with no device: one failed send, three failed receives, no error shown (95_test_vectors.md P3). -/
def Obligations.UpdateWithoutDeviceMakesFourAttempts : Prop :=
  ∀ s : State, s.device = [] →
    ∃ t es, exec .opUpdate s = .next t ∧ t.clock = releasedPin ∧ t.data = releasedPin ∧
      t.result = s.result ∧ t.valued = s.valued ∧ t.k = 2 ∧ DecodesReport t.rep t.ev ∧ t.trace = s.trace ++ es ∧
      es.filter isWait = List.replicate 4 clockNeverFell

/-- The report bytes one by one (42_device_session.md R138 to R142), the whole next state: each fills its register; the third
makes the event; the 4th is never fetched (log 10). That a report byte as an item is the report read that delivers it is the
model's choice (log 9). -/
def Obligations.ReportBytesFillTheirRegisters : Prop :=
  ∀ (s : State) (b : Byte),
    (exec (.reportFlags b) s = .next
      { s with
        clock := ⟨.driven, false⟩, data := ⟨.released, true⟩, i := 10, acc := b, ones := popcount b, count := 0,
        rep := { s.rep with b0 := b }, k := 0, trace := s.trace ++ recvTrace 0 b }) ∧
    (exec (.reportX b) s = .next
      { s with
        clock := ⟨.driven, false⟩, data := ⟨.released, true⟩, i := 10, acc := b, ones := popcount b, count := 0,
        rep := { s.rep with b1 := b }, k := 1, trace := s.trace ++ recvTrace 0 b }) ∧
    (∃ t, exec (.reportY b) s = .next t ∧ DecodesReport { s.rep with b2 := b } t.ev ∧
      t = { s with
            clock := ⟨.driven, false⟩, data := ⟨.released, true⟩, i := 10, acc := b, ones := popcount b, count := 0,
            rep := { s.rep with b2 := b }, k := 2, trace := s.trace ++ recvTrace 0 b,
            ev := t.ev, draws := t.draws }) ∧
    exec (.reportZ b) s = .next s

/-- 10_state.md R30 and R31: `rep[3]` is written by nothing but reset, and the event only where a report is decoded. -/
def Obligations.OnlyReportDecodingWritesTheEvent : Prop :=
  ∀ (i : Instr) (s : State), i ≠ .reserved0 → i ≠ .reserved6 → i ≠ .reserved7 →
    ∃ t, exec i s = .next t ∧ t.rep.b3 = s.rep.b3 ∧
      (i ≠ .opBegin → i ≠ .opUpdate → (∀ b, i ≠ .reportY b) → t.ev = s.ev) ∧
      (i ≠ .opBegin → i ≠ .opUpdate → (∀ b, i ≠ .reportFlags b) → (∀ b, i ≠ .reportX b) →
        (∀ b, i ≠ .reportY b) → t.rep = s.rep)

/-- The same from control point to control point: `rep[3]` never, the event only at U2. -/
def Obligations.OnlyTheDecodePointWritesTheEvent : Prop :=
  ∀ s : State, s.inbox = [] →
    ∃ t, step s = .next t ∧ t.rep.b3 = s.rep.b3 ∧ (s.ctl.stack.head? ≠ some .u2 → t.ev = s.ev) ∧
      (s.ctl.stack.head? ≠ some .u1 → t.rep = s.rep)

/-! ## begin -/

/-- A `begin` against a device that acknowledges the whole list, whatever its payload bytes, then gives a report
(42_device_session.md R131 to R135; the commands on the wire are those of 43_commands.md R165). -/
def Obligations.BeginRunsTheWholeList : Prop :=
  ∀ (s : State) (lag : Nat) (pay : Nat → Nat → Byte) (a x y z : Byte) (rest : List Pulls),
    s.device = initAnswers lag pay [0, 1, 2, 3, 4, 5, 6] ++ exchAnswers lag a [x, y, z] ++ rest →
    lag ≤ Config.waitCeiling →
    ∃ t es, exec .opBegin s = .next t ∧ t.result = 1 ∧ t.seq = 6 ∧ t.rep = ⟨x, y, z, s.rep.b3⟩ ∧
      DecodesReport ⟨x, y, z, s.rep.b3⟩ t.ev ∧ t.device = rest ∧ t.ctl = s.ctl ∧ t.inbox = s.inbox ∧
      t.done = s.done ∧ t.clock = drivenPin false ∧ t.data = releasedPin ∧ t.trace = s.trace ++ es ∧
      dataLine es = exchangeLine 0xFF 3 ++ exchangeLine 0xE9 4 ++ exchangeLine 0xF6 1 ++ exchangeLine 0xE9 4 ++
        exchangeLine 0xF0 1 ++ exchangeLine 0xE9 4 ++ exchangeLine 0xEB 4 ++ exchangeLine 0xEB 4

/-- 42_device_session.md R132: `begin` stops at the first command whose answer is not 0xFA, sends nothing more, and leaves
`ev` and `rep` alone: first where the answer is another byte, then whatever the device does from that command on, a
sentinel of either phase included. -/
def Obligations.BeginStopsAtTheFirstRefusal : Prop :=
  (∀ (s : State) (lag : Nat) (pay : Nat → Nat → Byte) (n : Nat) (a : Byte) (rest : List Pulls),
    n ≤ 6 → a ≠ 0xFA → s.device = initAnswers lag pay (List.range n) ++ exchAnswers lag a [] ++ rest →
    lag ≤ Config.waitCeiling →
    ∃ t es, exec .opBegin s = .next t ∧ t.result = 0 ∧ t.seq = n ∧ t.rep = s.rep ∧ t.ev = s.ev ∧ t.device = rest ∧
      t.trace = s.trace ++ es ∧ dataLine es = initLine (List.range n) ++ exchangeLine (initAt n) 1) ∧
  ∀ (s u : State) (lag : Nat) (pay : Nat → Nat → Byte) (n : Nat) (d : List Pulls),
    n ≤ 6 → s.device = initAnswers lag pay (List.range n) ++ d → lag ≤ Config.waitCeiling →
    exec (.opWra (initAt n)) { s with device := d, trace := [] } = .next u → u.result ≠ 250 →
    ∃ t es, exec .opBegin s = .next t ∧ t.result = 0 ∧ t.seq = n ∧ t.rep = s.rep ∧ t.ev = s.ev ∧
      t.device = u.device ∧ t.clock = u.clock ∧ t.data = u.data ∧ t.trace = s.trace ++ es ∧
      dataLine es = initLine (List.range n) ++ dataLine u.trace

/-- 60_exceptions.md R177, for every device: the verdict of `begin`; a failed one has touched neither `ev` nor `rep`. At the
control points, for every value an inner operation hands up: a command whose `writeAndReadAck` gave 250 goes on to its
payload, every other value ends `begin` with `false` (42_device_session.md R132); the value of a payload read is dropped
(R133, 60_exceptions.md R188) and as many are made as the command has; after the last command `update` is called and
`true` returned whatever it did (R134). -/
def Obligations.BeginCollapsesFailuresToFalse : Prop :=
  (∀ s : State, ∃ t, exec .opBegin s = .next t ∧ (t.result = 0 ∨ t.result = 1) ∧ t.seq ≤ 6 ∧
    (t.result = 0 → t.rep = s.rep ∧ t.ev = s.ev) ∧
    (t.result = 1 → DecodesReport t.rep t.ev ∧ t.seq = 6) ∧ t.rep.b3 = s.rep.b3) ∧
  ∀ (s : State) (rest : List Point), s.inbox = [] →
    (s.ctl = ⟨.b0 :: rest, none⟩ → step s = .next { s with seq := 0, ctl := ⟨.b1 :: rest, none⟩ }) ∧
    (∀ b : Byte, (s.seq, b) ∈ ([(0, 0xFF), (1, 0xE9), (2, 0xF6), (3, 0xE9), (4, 0xF0), (5, 0xE9), (6, 0xEB)] :
        List (Nat × Byte)) → s.ctl = ⟨.b1 :: rest, none⟩ →
      step s = .next { s with ctl := ⟨.a0 b :: .b1 :: rest, none⟩ }) ∧
    (∀ v : Int, s.ctl = ⟨.b1 :: rest, some v⟩ →
      (v = 250 → step s = .next { s with k := 0, ctl := ⟨.b2 :: rest, none⟩ }) ∧
      (v ≠ 250 →
        (rest = [] → step s = .next { s with result := 0, valued := true, ctl := .idle, done := true }) ∧
        (rest ≠ [] → step s = .next { s with ctl := ⟨rest, some 0⟩ }))) ∧
    (∀ n : Nat, (s.seq, n) ∈ ([(0, 2), (1, 3), (2, 0), (3, 3), (4, 0), (5, 3), (6, 3)] : List (Nat × Nat)) →
      s.ctl = ⟨.b2 :: rest, none⟩ →
      (s.k < n → step s = .next { s with ctl := ⟨.d0 :: .b2 :: rest, none⟩ }) ∧
      (n ≤ s.k → step s = .next { s with ctl := ⟨.b3 :: rest, none⟩ })) ∧
    (∀ v : Int, s.ctl = ⟨.b2 :: rest, some v⟩ →
      step s = .next { s with k := s.k + 1, ctl := ⟨.b2 :: rest, none⟩ }) ∧
    (s.ctl = ⟨.b3 :: rest, none⟩ →
      (s.seq < 6 → step s = .next { s with seq := s.seq + 1, ctl := ⟨.b1 :: rest, none⟩ }) ∧
      (s.seq = 6 → step s = .next { s with ctl := ⟨.b4 :: rest, none⟩ })) ∧
    (s.ctl = ⟨.b4 :: rest, none⟩ → step s = .next { s with ctl := ⟨.u0 :: .b4 :: rest, none⟩ }) ∧
    ∀ v : Int, s.ctl = ⟨.b4 :: rest, some v⟩ →
      (rest = [] → step s = .next { s with result := 1, valued := true, ctl := .idle, done := true }) ∧
      (rest ≠ [] → step s = .next { s with ctl := ⟨rest, some 1⟩ })

/-- `begin` with no device: one send attempt (42_device_session.md R135 corner case b). -/
def Obligations.BeginWithoutDeviceMakesOneAttempt : Prop :=
  ∀ s : State, s.device = [] →
    ∃ t es, exec .opBegin s = .next t ∧ t.result = 0 ∧ t.seq = 0 ∧ t.rep = s.rep ∧ t.ev = s.ev ∧
      t.clock = releasedPin ∧ t.data = drivenPin false ∧ t.trace = s.trace ++ es ∧
      es.filter isWait = [clockNeverFell]

/-- 42_device_session.md R145, R146. -/
def Obligations.SettersAreInert : Prop :=
  ∀ (x : Byte) (s : State), exec (.opSetRes x) s = .next s ∧ exec (.opSetRate x) s = .next s

/-! ## Errors -/

/-- 60_exceptions.md R170: every failure code of the block is negative and no two are the same. -/
def Obligations.FailureCodesAreNegativeAndDistinct : Prop :=
  let codes := [Config.txErrClkFall, Config.txErrAck, Config.txErrEndClk] ++
    (List.range 10).map Config.txErrBitHigh ++ (List.range 10).map Config.txErrBitLow ++
    [Config.rxErrStart, Config.rxErrParity, Config.rxErrStop] ++
    (List.range 11).map Config.rxErrClkLow ++ (List.range 11).map Config.rxErrClkHigh ++
    [Config.wraErrSend, Config.wraErrRecv]
  codes.Nodup ∧ ∀ c ∈ codes, c < 0

/-- 40_line_transport.md R106: a failed wait ends the byte operation at once at every control point that calls a wait,
whatever called the operation, with the code of that call site, which is what the operation that called it gets, or the
caller in `result`; no further event happens and no line and no register of the transfer changes (60_exceptions.md R185).
Which code each call site has is decisions D6 and D7 (R170; log 22). -/
def Obligations.FailedWaitAbortsAtOnce : Prop :=
  let sites : Nat → List (Point × Int) := fun i =>
    [(.s8, Config.txErrClkFall), (.s10, Config.txErrBitHigh i), (.s11, Config.txErrBitLow i),
      (.s13, Config.txErrEndClk), (.v3, Config.rxErrClkLow i), (.v4, Config.rxErrClkHigh i)]
  (∀ p, calls p = some .wait → ∀ i, ∃ code, (p, code) ∈ sites i) ∧
  ∀ (s : State) (p : Point) (rest : List Point) (code : Int),
    s.inbox = [] → s.ctl = ⟨p :: rest, some 0⟩ → (p, code) ∈ sites s.i →
    (rest = [] → step s = .next { s with result := code, valued := true, ctl := .idle, done := true }) ∧
    (rest ≠ [] → step s = .next { s with ctl := ⟨rest, some code⟩ })

/-- 60_exceptions.md R185: the aborts of the other tests, the ack sample of a send and the slot sample of a receive: the
sample is the operation's last event, and the code is all that changes with it. -/
def Obligations.FailedSampleAbortsAtOnce : Prop :=
  ∀ (s : State) (p : Point) (rest : List Point) (d : Level) (code : Int),
    s.inbox = [] → s.ctl = ⟨p :: rest, none⟩ → s.data.mode = .released → d = !(s.device.headD ⟨false, false⟩).data →
    (p = .s12 ∧ d = true ∧ code = Config.txErrAck) ∨
      (p = .v5 ∧ s.i = 0 ∧ d = true ∧ code = Config.rxErrStart) ∨
      (p = .v5 ∧ s.i = 9 ∧ parityAccepts d s.ones = false ∧ code = Config.rxErrParity) ∨
      (p = .v5 ∧ s.i = 10 ∧ d = false ∧ code = Config.rxErrStop) →
    (rest = [] → step s = .next
      { s with result := code, valued := true, device := s.device.tail, trace := s.trace ++ [.sample .data d],
               ctl := .idle, done := true }) ∧
    (rest ≠ [] → step s = .next
      { s with device := s.device.tail, trace := s.trace ++ [.sample .data d], ctl := ⟨rest, some code⟩ })

/-- 70_reset_and_hazards.md R222: a byte operation takes at most 22 waits, whatever the device does, each of at
most `MAX_SAMPLES` samples with a pause between each two. -/
def Obligations.ByteOperationsTakeBoundedWaits : Prop :=
  ∀ (s : State) (b : Byte),
    (∃ t es, exec (.opSend b) s = .next t ∧ t.trace = s.trace ++ es ∧ (es.filter isWait).length ≤ 22 ∧
      ∀ l v ok n p, .wait l v ok n p ∈ es → n ≤ Config.maxSamples ∧ p ≤ Config.waitCeiling * Config.tPoll) ∧
    (∃ t es, exec .opRecv s = .next t ∧ t.trace = s.trace ++ es ∧ (es.filter isWait).length ≤ 22 ∧
      ∀ l v ok n p, .wait l v ok n p ∈ es → n ≤ Config.maxSamples ∧ p ≤ Config.waitCeiling * Config.tPoll)

/-- 30_encoding.md R72: odd parity, as the sender makes it and as the receiver tests it. -/
def Obligations.ParityIsOdd : Prop :=
  (∀ b : Byte, (popcount b + (oddParity b).toNat) % 2 = 1 ∧
    oddParity b = (true ^^ b.getLsbD 0 ^^ b.getLsbD 1 ^^ b.getLsbD 2 ^^ b.getLsbD 3 ^^ b.getLsbD 4 ^^ b.getLsbD 5 ^^
      b.getLsbD 6 ^^ b.getLsbD 7) ∧
    (oddParity b = true ↔ popcount b % 2 = 0) ∧ (oddParity b = false ↔ popcount b % 2 = 1) ∧
    ∀ d : Level, parityAccepts d (popcount b) = (d == oddParity b)) ∧
  (∀ n, parityAccepts false n = true ↔ n % 2 = 1) ∧ (∀ n, parityAccepts true n = true ↔ n % 2 = 0) ∧
  oddParity 0x00 = true ∧ oddParity 0xFF = true ∧ oddParity 0xFA = true ∧ oddParity 0xEB = true ∧
  oddParity 0xE9 = false ∧ oddParity 0x01 = false

/-! ## Encodings -/

/-- Words written out from the tables of 30_encoding.md (R70, R71, R85, R86). -/
def Obligations.WrittenOutWordsDecode : Prop :=
  decode ⟨.commandByte, 0xEB⟩ = .ok .cmdReadData ∧ decode ⟨.commandByte, 0xF7⟩ = .error .unknownCommand ∧
    decode ⟨.responseByte, 0xFA⟩ = .ok .rspAck ∧ decode ⟨.opSel, 0xEB08⟩ = .ok (.opSend 0xEB) ∧
    decode ⟨.opSel, 0x01⟩ = .ok .opBegin ∧ decode ⟨.opSel, 0x06⟩ = .ok .reserved6 ∧
    decode ⟨.wireFrame11, 0x7D6⟩ = .ok (.frameD2H false 0xEB true true) ∧
    decode ⟨.wireFrame12, 0x7D6⟩ = .ok (.frameH2D 0xEB false) ∧
    decode ⟨.reportByte1, 0x29⟩ = .ok (.reportFlags 0x29)

/-- Every well-formed instruction is read back from its word, with every operand at every value. -/
def Obligations.DecodeReadsBackEveryEncoding : Prop :=
  ∀ i : Instr, i.wellFormed = true → decode (encode i) = .ok i

/-- A word that decodes stands for a well-formed instruction and is that instruction's own word, an operand at every value
included; the word of a request without an operand is its own up to `op_arg`, which is not looked at (30_encoding.md
R86). -/
def Obligations.DecodedWordsAreEncodings : Prop :=
  ∀ (w : RawWord) (i : Instr), decode w = .ok i →
    i.wellFormed = true ∧ (i ∉ bareRequests → encode i = w) ∧
    (i ∈ bareRequests → w.format = .opSel ∧ (encode i).format = .opSel ∧ field w.bits 16 8 = 0 ∧
      field (encode i).bits 16 8 = 0 ∧ field (encode i).bits 0 8 = field w.bits 0 8)

/-! ## Invariants of every step -/

/-- The invariants at reset. -/
def Obligations.ResetMeetsTheInvariants : Prop :=
  LinesRested State.reset ∧ NestingLegal State.reset ∧ LinesFit State.reset ∧ RangesFit State.reset ∧
    SessionSendsOnlyItsList State.reset

/-- 10_state.md R21: a released line keeps `out` = 1. -/
def Obligations.EveryStepKeepsLinesRested : Prop :=
  ∀ s t : State, LinesRested s → step s = .next t → LinesRested t

/-- 10_state.md R33: the control state stays a legal nest. -/
def Obligations.EveryStepKeepsTheNestLegal : Prop :=
  ∀ s t : State, NestingLegal s → step s = .next t → NestingLegal t

/-- 10_state.md R33: five levels are the deepest nest. -/
def Obligations.LegalNestsAreAtMostFiveDeep : Prop :=
  ∀ s : State, NestingLegal s → s.ctl.stack.length ≤ 5

/-- 41_byte_transport.md R125: the lines fit the control points through every step. -/
def Obligations.EveryStepKeepsTheLinesFit : Prop :=
  ∀ s t : State, LinesFit s → step s = .next t → LinesFit t

/-- 41_byte_transport.md R125: where the lines fit, the line a tick samples is released. -/
def Obligations.NoDrivenLineIsSampled : Prop :=
  ∀ (s : State) (l : Line), LinesFit s → samplesNext s = some l → (readPin l s).mode = .released

/-- 30_encoding.md R95: no register outgrows its width. -/
def Obligations.EveryStepKeepsTheRanges : Prop :=
  ∀ s t : State, RangesFit s → step s = .next t → RangesFit t

/-- 43_commands.md R165: inside `begin` and `update` only the five bytes are sent. -/
def Obligations.EveryStepKeepsTheSessionList : Prop :=
  ∀ s t : State, SessionSendsOnlyItsList s → step s = .next t → SessionSendsOnlyItsList t

/-! ## The control points against the pseudocode -/

/-! `startEndsAsCall` (Safety): started at its first control point and left to run, the operation of these codes ends in
the state its meaning gives when it is called, for every device: the tables of 10_state.md R34 to R38 and the pseudocode of
40_line_transport.md R104, 41_byte_transport.md R110, R117, R121, R122 and 42_device_session.md R135, R143 are the same
machine, and every started operation ends (70_reset_and_hazards.md R222). -/

/-- `SEND` and `RECV`, `READ`. -/
def Obligations.ControlPointsOfTransfersMatchTheirPseudocode : Prop := startEndsAsCall [0x8, 0x9, 0xB]

/-- `WRA`. -/
def Obligations.ControlPointsOfExchangeMatchItsPseudocode : Prop := startEndsAsCall [0xA]

/-- `BEGIN`, `UPDATE`, and the setters, which have no control points. -/
def Obligations.ControlPointsOfSessionMatchTheirPseudocode : Prop := startEndsAsCall [0x1, 0x2, 0x3, 0x4]
end

