-- ==== Sys2Proof/Laws/State.lean ====
section
/-! SUPPORT. One lemma per field per state update, so that no later proof unfolds a record update. -/

namespace Sys2Proof.Machine

/-! ## Reading and writing a line's registers -/

@[simp] theorem readPin_clock (s : State) : readPin .clock s = s.clock := rfl
@[simp] theorem readPin_data (s : State) : readPin .data s = s.data := rfl
@[simp] theorem setPin_clock (p : Pin) (s : State) : setPin .clock p s = { s with clock := p } := rfl
@[simp] theorem setPin_data (p : Pin) (s : State) : setPin .data p s = { s with data := p } := rfl

theorem readPin_setPin_same (l : Line) (p : Pin) (s : State) : readPin l (setPin l p s) = p := by
  cases l <;> rfl

theorem readPin_setPin_other {l l' : Line} (h : l' ≠ l) (p : Pin) (s : State) :
    readPin l' (setPin l p s) = readPin l' s := by
  cases l <;> cases l' <;> first | rfl | exact absurd rfl h

/-! ## emit -/

@[simp] theorem emit_clock (e : Event) (s : State) : (emit e s).clock = s.clock := rfl
@[simp] theorem emit_data (e : Event) (s : State) : (emit e s).data = s.data := rfl
@[simp] theorem emit_txb (e : Event) (s : State) : (emit e s).txb = s.txb := rfl
@[simp] theorem emit_i (e : Event) (s : State) : (emit e s).i = s.i := rfl
@[simp] theorem emit_par (e : Event) (s : State) : (emit e s).par = s.par := rfl
@[simp] theorem emit_acc (e : Event) (s : State) : (emit e s).acc = s.acc := rfl
@[simp] theorem emit_ones (e : Event) (s : State) : (emit e s).ones = s.ones := rfl
@[simp] theorem emit_count (e : Event) (s : State) : (emit e s).count = s.count := rfl
@[simp] theorem emit_rep (e : Event) (s : State) : (emit e s).rep = s.rep := rfl
@[simp] theorem emit_ev (e : Event) (s : State) : (emit e s).ev = s.ev := rfl
@[simp] theorem emit_result (e : Event) (s : State) : (emit e s).result = s.result := rfl
@[simp] theorem emit_valued (e : Event) (s : State) : (emit e s).valued = s.valued := rfl
@[simp] theorem emit_seq (e : Event) (s : State) : (emit e s).seq = s.seq := rfl
@[simp] theorem emit_k (e : Event) (s : State) : (emit e s).k = s.k := rfl
@[simp] theorem emit_ctl (e : Event) (s : State) : (emit e s).ctl = s.ctl := rfl
@[simp] theorem emit_done (e : Event) (s : State) : (emit e s).done = s.done := rfl
@[simp] theorem emit_device (e : Event) (s : State) : (emit e s).device = s.device := rfl
@[simp] theorem emit_inbox (e : Event) (s : State) : (emit e s).inbox = s.inbox := rfl
@[simp] theorem emit_trace (e : Event) (s : State) : (emit e s).trace = s.trace ++ [e] := rfl
@[simp] theorem emit_draws (e : Event) (s : State) : (emit e s).draws = s.draws := rfl

/-! ## delayFor -/

@[simp] theorem delayFor_clock (n : Nat) (s : State) : (delayFor n s).clock = s.clock := rfl
@[simp] theorem delayFor_data (n : Nat) (s : State) : (delayFor n s).data = s.data := rfl
@[simp] theorem delayFor_txb (n : Nat) (s : State) : (delayFor n s).txb = s.txb := rfl
@[simp] theorem delayFor_i (n : Nat) (s : State) : (delayFor n s).i = s.i := rfl
@[simp] theorem delayFor_par (n : Nat) (s : State) : (delayFor n s).par = s.par := rfl
@[simp] theorem delayFor_acc (n : Nat) (s : State) : (delayFor n s).acc = s.acc := rfl
@[simp] theorem delayFor_ones (n : Nat) (s : State) : (delayFor n s).ones = s.ones := rfl
@[simp] theorem delayFor_count (n : Nat) (s : State) : (delayFor n s).count = s.count := rfl
@[simp] theorem delayFor_rep (n : Nat) (s : State) : (delayFor n s).rep = s.rep := rfl
@[simp] theorem delayFor_ev (n : Nat) (s : State) : (delayFor n s).ev = s.ev := rfl
@[simp] theorem delayFor_result (n : Nat) (s : State) : (delayFor n s).result = s.result := rfl
@[simp] theorem delayFor_valued (n : Nat) (s : State) : (delayFor n s).valued = s.valued := rfl
@[simp] theorem delayFor_seq (n : Nat) (s : State) : (delayFor n s).seq = s.seq := rfl
@[simp] theorem delayFor_k (n : Nat) (s : State) : (delayFor n s).k = s.k := rfl
@[simp] theorem delayFor_ctl (n : Nat) (s : State) : (delayFor n s).ctl = s.ctl := rfl
@[simp] theorem delayFor_done (n : Nat) (s : State) : (delayFor n s).done = s.done := rfl
@[simp] theorem delayFor_device (n : Nat) (s : State) : (delayFor n s).device = s.device := rfl
@[simp] theorem delayFor_inbox (n : Nat) (s : State) : (delayFor n s).inbox = s.inbox := rfl
@[simp] theorem delayFor_trace (n : Nat) (s : State) : (delayFor n s).trace = s.trace ++ [.delay n] := rfl
@[simp] theorem delayFor_draws (n : Nat) (s : State) : (delayFor n s).draws = s.draws := rfl

/-! ## releaseLine -/

@[simp] theorem releaseLine_txb (l : Line) (s : State) : (releaseLine l s).txb = s.txb := by cases l <;> rfl
@[simp] theorem releaseLine_i (l : Line) (s : State) : (releaseLine l s).i = s.i := by cases l <;> rfl
@[simp] theorem releaseLine_par (l : Line) (s : State) : (releaseLine l s).par = s.par := by cases l <;> rfl
@[simp] theorem releaseLine_acc (l : Line) (s : State) : (releaseLine l s).acc = s.acc := by cases l <;> rfl
@[simp] theorem releaseLine_ones (l : Line) (s : State) : (releaseLine l s).ones = s.ones := by cases l <;> rfl
@[simp] theorem releaseLine_count (l : Line) (s : State) : (releaseLine l s).count = s.count := by cases l <;> rfl
@[simp] theorem releaseLine_rep (l : Line) (s : State) : (releaseLine l s).rep = s.rep := by cases l <;> rfl
@[simp] theorem releaseLine_ev (l : Line) (s : State) : (releaseLine l s).ev = s.ev := by cases l <;> rfl
@[simp] theorem releaseLine_result (l : Line) (s : State) : (releaseLine l s).result = s.result := by cases l <;> rfl
@[simp] theorem releaseLine_valued (l : Line) (s : State) : (releaseLine l s).valued = s.valued := by cases l <;> rfl
@[simp] theorem releaseLine_seq (l : Line) (s : State) : (releaseLine l s).seq = s.seq := by cases l <;> rfl
@[simp] theorem releaseLine_k (l : Line) (s : State) : (releaseLine l s).k = s.k := by cases l <;> rfl
@[simp] theorem releaseLine_ctl (l : Line) (s : State) : (releaseLine l s).ctl = s.ctl := by cases l <;> rfl
@[simp] theorem releaseLine_done (l : Line) (s : State) : (releaseLine l s).done = s.done := by cases l <;> rfl
@[simp] theorem releaseLine_device (l : Line) (s : State) : (releaseLine l s).device = s.device := by cases l <;> rfl
@[simp] theorem releaseLine_inbox (l : Line) (s : State) : (releaseLine l s).inbox = s.inbox := by cases l <;> rfl
@[simp] theorem releaseLine_trace (l : Line) (s : State) : (releaseLine l s).trace = s.trace ++ [.release l] := by cases l <;> rfl
@[simp] theorem releaseLine_draws (l : Line) (s : State) : (releaseLine l s).draws = s.draws := by cases l <;> rfl

@[simp] theorem releaseLine_clock_clock (s : State) : (releaseLine .clock s).clock = ⟨.released, true⟩ := rfl
@[simp] theorem releaseLine_clock_data (s : State) : (releaseLine .clock s).data = s.data := rfl
@[simp] theorem releaseLine_data_clock (s : State) : (releaseLine .data s).clock = s.clock := rfl
@[simp] theorem releaseLine_data_data (s : State) : (releaseLine .data s).data = ⟨.released, true⟩ := rfl

/-! ## driveLine -/

@[simp] theorem driveLine_txb (l : Line) (v : Level) (s : State) : (driveLine l v s).txb = s.txb := by cases l <;> rfl
@[simp] theorem driveLine_i (l : Line) (v : Level) (s : State) : (driveLine l v s).i = s.i := by cases l <;> rfl
@[simp] theorem driveLine_par (l : Line) (v : Level) (s : State) : (driveLine l v s).par = s.par := by cases l <;> rfl
@[simp] theorem driveLine_acc (l : Line) (v : Level) (s : State) : (driveLine l v s).acc = s.acc := by cases l <;> rfl
@[simp] theorem driveLine_ones (l : Line) (v : Level) (s : State) : (driveLine l v s).ones = s.ones := by cases l <;> rfl
@[simp] theorem driveLine_count (l : Line) (v : Level) (s : State) : (driveLine l v s).count = s.count := by cases l <;> rfl
@[simp] theorem driveLine_rep (l : Line) (v : Level) (s : State) : (driveLine l v s).rep = s.rep := by cases l <;> rfl
@[simp] theorem driveLine_ev (l : Line) (v : Level) (s : State) : (driveLine l v s).ev = s.ev := by cases l <;> rfl
@[simp] theorem driveLine_result (l : Line) (v : Level) (s : State) : (driveLine l v s).result = s.result := by cases l <;> rfl
@[simp] theorem driveLine_valued (l : Line) (v : Level) (s : State) : (driveLine l v s).valued = s.valued := by cases l <;> rfl
@[simp] theorem driveLine_seq (l : Line) (v : Level) (s : State) : (driveLine l v s).seq = s.seq := by cases l <;> rfl
@[simp] theorem driveLine_k (l : Line) (v : Level) (s : State) : (driveLine l v s).k = s.k := by cases l <;> rfl
@[simp] theorem driveLine_ctl (l : Line) (v : Level) (s : State) : (driveLine l v s).ctl = s.ctl := by cases l <;> rfl
@[simp] theorem driveLine_done (l : Line) (v : Level) (s : State) : (driveLine l v s).done = s.done := by cases l <;> rfl
@[simp] theorem driveLine_device (l : Line) (v : Level) (s : State) : (driveLine l v s).device = s.device := by cases l <;> rfl
@[simp] theorem driveLine_inbox (l : Line) (v : Level) (s : State) : (driveLine l v s).inbox = s.inbox := by cases l <;> rfl
@[simp] theorem driveLine_trace (l : Line) (v : Level) (s : State) : (driveLine l v s).trace = s.trace ++ [.drive l v] := by cases l <;> rfl
@[simp] theorem driveLine_draws (l : Line) (v : Level) (s : State) : (driveLine l v s).draws = s.draws := by cases l <;> rfl

@[simp] theorem driveLine_clock_clock (v : Level) (s : State) : (driveLine .clock v s).clock = ⟨.driven, v⟩ := rfl
@[simp] theorem driveLine_clock_data (v : Level) (s : State) : (driveLine .clock v s).data = s.data := rfl
@[simp] theorem driveLine_data_clock (v : Level) (s : State) : (driveLine .data v s).clock = s.clock := rfl
@[simp] theorem driveLine_data_data (v : Level) (s : State) : (driveLine .data v s).data = ⟨.driven, v⟩ := rfl

/-! ## look: only the environment moves -/

@[simp] theorem look_clock (l : Line) (s : State) : ((look l s).2).clock = s.clock := rfl
@[simp] theorem look_data (l : Line) (s : State) : ((look l s).2).data = s.data := rfl
@[simp] theorem look_txb (l : Line) (s : State) : ((look l s).2).txb = s.txb := rfl
@[simp] theorem look_i (l : Line) (s : State) : ((look l s).2).i = s.i := rfl
@[simp] theorem look_par (l : Line) (s : State) : ((look l s).2).par = s.par := rfl
@[simp] theorem look_acc (l : Line) (s : State) : ((look l s).2).acc = s.acc := rfl
@[simp] theorem look_ones (l : Line) (s : State) : ((look l s).2).ones = s.ones := rfl
@[simp] theorem look_count (l : Line) (s : State) : ((look l s).2).count = s.count := rfl
@[simp] theorem look_rep (l : Line) (s : State) : ((look l s).2).rep = s.rep := rfl
@[simp] theorem look_ev (l : Line) (s : State) : ((look l s).2).ev = s.ev := rfl
@[simp] theorem look_result (l : Line) (s : State) : ((look l s).2).result = s.result := rfl
@[simp] theorem look_valued (l : Line) (s : State) : ((look l s).2).valued = s.valued := rfl
@[simp] theorem look_seq (l : Line) (s : State) : ((look l s).2).seq = s.seq := rfl
@[simp] theorem look_k (l : Line) (s : State) : ((look l s).2).k = s.k := rfl
@[simp] theorem look_ctl (l : Line) (s : State) : ((look l s).2).ctl = s.ctl := rfl
@[simp] theorem look_done (l : Line) (s : State) : ((look l s).2).done = s.done := rfl
@[simp] theorem look_device (l : Line) (s : State) : ((look l s).2).device = s.device.tail := rfl
@[simp] theorem look_inbox (l : Line) (s : State) : ((look l s).2).inbox = s.inbox := rfl
@[simp] theorem look_trace (l : Line) (s : State) : ((look l s).2).trace = s.trace := rfl

/-! ## sampleLine -/

@[simp] theorem sampleLine_clock (l : Line) (s : State) : ((sampleLine l s).2).clock = s.clock := rfl
@[simp] theorem sampleLine_data (l : Line) (s : State) : ((sampleLine l s).2).data = s.data := rfl
@[simp] theorem sampleLine_txb (l : Line) (s : State) : ((sampleLine l s).2).txb = s.txb := rfl
@[simp] theorem sampleLine_i (l : Line) (s : State) : ((sampleLine l s).2).i = s.i := rfl
@[simp] theorem sampleLine_par (l : Line) (s : State) : ((sampleLine l s).2).par = s.par := rfl
@[simp] theorem sampleLine_acc (l : Line) (s : State) : ((sampleLine l s).2).acc = s.acc := rfl
@[simp] theorem sampleLine_ones (l : Line) (s : State) : ((sampleLine l s).2).ones = s.ones := rfl
@[simp] theorem sampleLine_count (l : Line) (s : State) : ((sampleLine l s).2).count = s.count := rfl
@[simp] theorem sampleLine_rep (l : Line) (s : State) : ((sampleLine l s).2).rep = s.rep := rfl
@[simp] theorem sampleLine_ev (l : Line) (s : State) : ((sampleLine l s).2).ev = s.ev := rfl
@[simp] theorem sampleLine_result (l : Line) (s : State) : ((sampleLine l s).2).result = s.result := rfl
@[simp] theorem sampleLine_valued (l : Line) (s : State) : ((sampleLine l s).2).valued = s.valued := rfl
@[simp] theorem sampleLine_seq (l : Line) (s : State) : ((sampleLine l s).2).seq = s.seq := rfl
@[simp] theorem sampleLine_k (l : Line) (s : State) : ((sampleLine l s).2).k = s.k := rfl
@[simp] theorem sampleLine_ctl (l : Line) (s : State) : ((sampleLine l s).2).ctl = s.ctl := rfl
@[simp] theorem sampleLine_done (l : Line) (s : State) : ((sampleLine l s).2).done = s.done := rfl
@[simp] theorem sampleLine_device (l : Line) (s : State) : ((sampleLine l s).2).device = s.device.tail := rfl
@[simp] theorem sampleLine_inbox (l : Line) (s : State) : ((sampleLine l s).2).inbox = s.inbox := rfl
@[simp] theorem sampleLine_trace (l : Line) (s : State) : ((sampleLine l s).2).trace = s.trace ++ [.sample l (look l s).1] := rfl

theorem sampleLine_draws (l : Line) (s : State) : (sampleLine l s).2.draws = (look l s).2.draws := rfl
@[simp] theorem sampleLine_value (l : Line) (s : State) : (sampleLine l s).1 = (look l s).1 := rfl

/-! ## finish -/

@[simp] theorem finish_clock (v : Int) (s : State) : (finish v s).clock = s.clock := rfl
@[simp] theorem finish_data (v : Int) (s : State) : (finish v s).data = s.data := rfl
@[simp] theorem finish_txb (v : Int) (s : State) : (finish v s).txb = s.txb := rfl
@[simp] theorem finish_i (v : Int) (s : State) : (finish v s).i = s.i := rfl
@[simp] theorem finish_par (v : Int) (s : State) : (finish v s).par = s.par := rfl
@[simp] theorem finish_acc (v : Int) (s : State) : (finish v s).acc = s.acc := rfl
@[simp] theorem finish_ones (v : Int) (s : State) : (finish v s).ones = s.ones := rfl
@[simp] theorem finish_count (v : Int) (s : State) : (finish v s).count = s.count := rfl
@[simp] theorem finish_rep (v : Int) (s : State) : (finish v s).rep = s.rep := rfl
@[simp] theorem finish_ev (v : Int) (s : State) : (finish v s).ev = s.ev := rfl
@[simp] theorem finish_result (v : Int) (s : State) : (finish v s).result = v := rfl
@[simp] theorem finish_valued (v : Int) (s : State) : (finish v s).valued = true := rfl
@[simp] theorem finish_seq (v : Int) (s : State) : (finish v s).seq = s.seq := rfl
@[simp] theorem finish_k (v : Int) (s : State) : (finish v s).k = s.k := rfl
@[simp] theorem finish_ctl (v : Int) (s : State) : (finish v s).ctl = s.ctl := rfl
@[simp] theorem finish_done (v : Int) (s : State) : (finish v s).done = s.done := rfl
@[simp] theorem finish_device (v : Int) (s : State) : (finish v s).device = s.device := rfl
@[simp] theorem finish_inbox (v : Int) (s : State) : (finish v s).inbox = s.inbox := rfl
@[simp] theorem finish_trace (v : Int) (s : State) : (finish v s).trace = s.trace := rfl
@[simp] theorem finish_draws (v : Int) (s : State) : (finish v s).draws = s.draws := rfl

/-! ## present -/

@[simp] theorem present_clock (a : List Pulls) (s : State) : (present a s).clock = s.clock := rfl
@[simp] theorem present_data (a : List Pulls) (s : State) : (present a s).data = s.data := rfl
@[simp] theorem present_txb (a : List Pulls) (s : State) : (present a s).txb = s.txb := rfl
@[simp] theorem present_i (a : List Pulls) (s : State) : (present a s).i = s.i := rfl
@[simp] theorem present_par (a : List Pulls) (s : State) : (present a s).par = s.par := rfl
@[simp] theorem present_acc (a : List Pulls) (s : State) : (present a s).acc = s.acc := rfl
@[simp] theorem present_ones (a : List Pulls) (s : State) : (present a s).ones = s.ones := rfl
@[simp] theorem present_count (a : List Pulls) (s : State) : (present a s).count = s.count := rfl
@[simp] theorem present_rep (a : List Pulls) (s : State) : (present a s).rep = s.rep := rfl
@[simp] theorem present_ev (a : List Pulls) (s : State) : (present a s).ev = s.ev := rfl
@[simp] theorem present_result (a : List Pulls) (s : State) : (present a s).result = s.result := rfl
@[simp] theorem present_valued (a : List Pulls) (s : State) : (present a s).valued = s.valued := rfl
@[simp] theorem present_seq (a : List Pulls) (s : State) : (present a s).seq = s.seq := rfl
@[simp] theorem present_k (a : List Pulls) (s : State) : (present a s).k = s.k := rfl
@[simp] theorem present_ctl (a : List Pulls) (s : State) : (present a s).ctl = s.ctl := rfl
@[simp] theorem present_done (a : List Pulls) (s : State) : (present a s).done = s.done := rfl
@[simp] theorem present_device (a : List Pulls) (s : State) : (present a s).device = a ++ s.device := rfl
@[simp] theorem present_inbox (a : List Pulls) (s : State) : (present a s).inbox = s.inbox := rfl
@[simp] theorem present_trace (a : List Pulls) (s : State) : (present a s).trace = s.trace := rfl
@[simp] theorem present_draws (a : List Pulls) (s : State) : (present a s).draws = s.draws := rfl

/-! ## decodeReport -/

@[simp] theorem decodeReport_clock (s : State) : (decodeReport s).clock = s.clock := rfl
@[simp] theorem decodeReport_data (s : State) : (decodeReport s).data = s.data := rfl
@[simp] theorem decodeReport_txb (s : State) : (decodeReport s).txb = s.txb := rfl
@[simp] theorem decodeReport_i (s : State) : (decodeReport s).i = s.i := rfl
@[simp] theorem decodeReport_par (s : State) : (decodeReport s).par = s.par := rfl
@[simp] theorem decodeReport_acc (s : State) : (decodeReport s).acc = s.acc := rfl
@[simp] theorem decodeReport_ones (s : State) : (decodeReport s).ones = s.ones := rfl
@[simp] theorem decodeReport_count (s : State) : (decodeReport s).count = s.count := rfl
@[simp] theorem decodeReport_rep (s : State) : (decodeReport s).rep = s.rep := rfl
@[simp] theorem decodeReport_ev (s : State) : (decodeReport s).ev = decodeEvent s.rep s.draws := rfl
@[simp] theorem decodeReport_result (s : State) : (decodeReport s).result = s.result := rfl
@[simp] theorem decodeReport_valued (s : State) : (decodeReport s).valued = s.valued := rfl
@[simp] theorem decodeReport_seq (s : State) : (decodeReport s).seq = s.seq := rfl
@[simp] theorem decodeReport_k (s : State) : (decodeReport s).k = s.k := rfl
@[simp] theorem decodeReport_ctl (s : State) : (decodeReport s).ctl = s.ctl := rfl
@[simp] theorem decodeReport_done (s : State) : (decodeReport s).done = s.done := rfl
@[simp] theorem decodeReport_device (s : State) : (decodeReport s).device = s.device := rfl
@[simp] theorem decodeReport_inbox (s : State) : (decodeReport s).inbox = s.inbox := rfl
@[simp] theorem decodeReport_trace (s : State) : (decodeReport s).trace = s.trace := rfl
@[simp] theorem decodeReport_draws (s : State) : (decodeReport s).draws = s.draws + 1 := rfl

/-! ## storeReport -/

@[simp] theorem storeReport_clock (n : Nat) (v : Int) (s : State) : (storeReport n v s).clock = s.clock := by
  unfold storeReport; split <;> rfl
@[simp] theorem storeReport_data (n : Nat) (v : Int) (s : State) : (storeReport n v s).data = s.data := by
  unfold storeReport; split <;> rfl
@[simp] theorem storeReport_txb (n : Nat) (v : Int) (s : State) : (storeReport n v s).txb = s.txb := by
  unfold storeReport; split <;> rfl
@[simp] theorem storeReport_i (n : Nat) (v : Int) (s : State) : (storeReport n v s).i = s.i := by
  unfold storeReport; split <;> rfl
@[simp] theorem storeReport_par (n : Nat) (v : Int) (s : State) : (storeReport n v s).par = s.par := by
  unfold storeReport; split <;> rfl
@[simp] theorem storeReport_acc (n : Nat) (v : Int) (s : State) : (storeReport n v s).acc = s.acc := by
  unfold storeReport; split <;> rfl
@[simp] theorem storeReport_ones (n : Nat) (v : Int) (s : State) : (storeReport n v s).ones = s.ones := by
  unfold storeReport; split <;> rfl
@[simp] theorem storeReport_count (n : Nat) (v : Int) (s : State) : (storeReport n v s).count = s.count := by
  unfold storeReport; split <;> rfl
@[simp] theorem storeReport_ev (n : Nat) (v : Int) (s : State) : (storeReport n v s).ev = s.ev := by
  unfold storeReport; split <;> rfl
@[simp] theorem storeReport_result (n : Nat) (v : Int) (s : State) : (storeReport n v s).result = s.result := by
  unfold storeReport; split <;> rfl
@[simp] theorem storeReport_valued (n : Nat) (v : Int) (s : State) : (storeReport n v s).valued = s.valued := by
  unfold storeReport; split <;> rfl
@[simp] theorem storeReport_seq (n : Nat) (v : Int) (s : State) : (storeReport n v s).seq = s.seq := by
  unfold storeReport; split <;> rfl
@[simp] theorem storeReport_k (n : Nat) (v : Int) (s : State) : (storeReport n v s).k = s.k := by
  unfold storeReport; split <;> rfl
@[simp] theorem storeReport_ctl (n : Nat) (v : Int) (s : State) : (storeReport n v s).ctl = s.ctl := by
  unfold storeReport; split <;> rfl
@[simp] theorem storeReport_done (n : Nat) (v : Int) (s : State) : (storeReport n v s).done = s.done := by
  unfold storeReport; split <;> rfl
@[simp] theorem storeReport_device (n : Nat) (v : Int) (s : State) : (storeReport n v s).device = s.device := by
  unfold storeReport; split <;> rfl
@[simp] theorem storeReport_inbox (n : Nat) (v : Int) (s : State) : (storeReport n v s).inbox = s.inbox := by
  unfold storeReport; split <;> rfl
@[simp] theorem storeReport_trace (n : Nat) (v : Int) (s : State) : (storeReport n v s).trace = s.trace := by
  unfold storeReport; split <;> rfl

theorem storeReport_ok {n : Nat} {v : Int} {s : State} (h : 0 ≤ v) :
    storeReport n v s = { s with rep := setRep n (BitVec.ofInt 8 v) s.rep } := if_pos h

theorem storeReport_failed {n : Nat} {v : Int} {s : State} (h : v < 0) :
    storeReport n v s = { s with rep := setRep n (Config.staleByte s.draws) s.rep, draws := s.draws + 1 } :=
  if_neg (by omega)

@[simp] theorem setRep_b3 (n : Nat) (b : Byte) (r : Report) : (setRep n b r).b3 = r.b3 := by
  unfold setRep; split <;> rfl

@[simp] theorem storeReport_b3 (n : Nat) (v : Int) (s : State) : (storeReport n v s).rep.b3 = s.rep.b3 := by
  unfold storeReport; split <;> simp

/-! ## putSlot -/

@[simp] theorem putSlot_clock (s : State) : (putSlot s).clock = s.clock := by
  unfold putSlot; split <;> [skip; split] <;> simp
@[simp] theorem putSlot_txb (s : State) : (putSlot s).txb = s.txb := by
  unfold putSlot; split <;> [skip; split] <;> simp
@[simp] theorem putSlot_i (s : State) : (putSlot s).i = s.i := by
  unfold putSlot; split <;> [skip; split] <;> simp
@[simp] theorem putSlot_acc (s : State) : (putSlot s).acc = s.acc := by
  unfold putSlot; split <;> [skip; split] <;> simp
@[simp] theorem putSlot_ones (s : State) : (putSlot s).ones = s.ones := by
  unfold putSlot; split <;> [skip; split] <;> simp
@[simp] theorem putSlot_count (s : State) : (putSlot s).count = s.count := by
  unfold putSlot; split <;> [skip; split] <;> simp
@[simp] theorem putSlot_rep (s : State) : (putSlot s).rep = s.rep := by
  unfold putSlot; split <;> [skip; split] <;> simp
@[simp] theorem putSlot_ev (s : State) : (putSlot s).ev = s.ev := by
  unfold putSlot; split <;> [skip; split] <;> simp
@[simp] theorem putSlot_result (s : State) : (putSlot s).result = s.result := by
  unfold putSlot; split <;> [skip; split] <;> simp
@[simp] theorem putSlot_valued (s : State) : (putSlot s).valued = s.valued := by
  unfold putSlot; split <;> [skip; split] <;> simp
@[simp] theorem putSlot_seq (s : State) : (putSlot s).seq = s.seq := by
  unfold putSlot; split <;> [skip; split] <;> simp
@[simp] theorem putSlot_k (s : State) : (putSlot s).k = s.k := by
  unfold putSlot; split <;> [skip; split] <;> simp
@[simp] theorem putSlot_ctl (s : State) : (putSlot s).ctl = s.ctl := by
  unfold putSlot; split <;> [skip; split] <;> simp
@[simp] theorem putSlot_done (s : State) : (putSlot s).done = s.done := by
  unfold putSlot; split <;> [skip; split] <;> simp
@[simp] theorem putSlot_device (s : State) : (putSlot s).device = s.device := by
  unfold putSlot; split <;> [skip; split] <;> simp
@[simp] theorem putSlot_inbox (s : State) : (putSlot s).inbox = s.inbox := by
  unfold putSlot; split <;> [skip; split] <;> simp
@[simp] theorem putSlot_draws (s : State) : (putSlot s).draws = s.draws := by
  unfold putSlot; split <;> [skip; split] <;> simp

/-! ## Control moves -/

@[simp] theorem goto_clock (p : Point) (rest : List Point) (s : State) : (goto p rest s).clock = s.clock := rfl
@[simp] theorem goto_data (p : Point) (rest : List Point) (s : State) : (goto p rest s).data = s.data := rfl
@[simp] theorem goto_txb (p : Point) (rest : List Point) (s : State) : (goto p rest s).txb = s.txb := rfl
@[simp] theorem goto_i (p : Point) (rest : List Point) (s : State) : (goto p rest s).i = s.i := rfl
@[simp] theorem goto_par (p : Point) (rest : List Point) (s : State) : (goto p rest s).par = s.par := rfl
@[simp] theorem goto_acc (p : Point) (rest : List Point) (s : State) : (goto p rest s).acc = s.acc := rfl
@[simp] theorem goto_ones (p : Point) (rest : List Point) (s : State) : (goto p rest s).ones = s.ones := rfl
@[simp] theorem goto_count (p : Point) (rest : List Point) (s : State) : (goto p rest s).count = s.count := rfl
@[simp] theorem goto_rep (p : Point) (rest : List Point) (s : State) : (goto p rest s).rep = s.rep := rfl
@[simp] theorem goto_ev (p : Point) (rest : List Point) (s : State) : (goto p rest s).ev = s.ev := rfl
@[simp] theorem goto_result (p : Point) (rest : List Point) (s : State) : (goto p rest s).result = s.result := rfl
@[simp] theorem goto_valued (p : Point) (rest : List Point) (s : State) : (goto p rest s).valued = s.valued := rfl
@[simp] theorem goto_seq (p : Point) (rest : List Point) (s : State) : (goto p rest s).seq = s.seq := rfl
@[simp] theorem goto_k (p : Point) (rest : List Point) (s : State) : (goto p rest s).k = s.k := rfl
@[simp] theorem goto_ctl (p : Point) (rest : List Point) (s : State) : (goto p rest s).ctl = ⟨p :: rest, none⟩ := rfl
@[simp] theorem goto_done (p : Point) (rest : List Point) (s : State) : (goto p rest s).done = s.done := rfl
@[simp] theorem goto_device (p : Point) (rest : List Point) (s : State) : (goto p rest s).device = s.device := rfl
@[simp] theorem goto_inbox (p : Point) (rest : List Point) (s : State) : (goto p rest s).inbox = s.inbox := rfl
@[simp] theorem goto_trace (p : Point) (rest : List Point) (s : State) : (goto p rest s).trace = s.trace := rfl
@[simp] theorem goto_draws (p : Point) (rest : List Point) (s : State) : (goto p rest s).draws = s.draws := rfl

@[simp] theorem callPoint_clock (c p : Point) (rest : List Point) (s : State) : (callPoint c p rest s).clock = s.clock := rfl
@[simp] theorem callPoint_data (c p : Point) (rest : List Point) (s : State) : (callPoint c p rest s).data = s.data := rfl
@[simp] theorem callPoint_txb (c p : Point) (rest : List Point) (s : State) : (callPoint c p rest s).txb = s.txb := rfl
@[simp] theorem callPoint_i (c p : Point) (rest : List Point) (s : State) : (callPoint c p rest s).i = s.i := rfl
@[simp] theorem callPoint_par (c p : Point) (rest : List Point) (s : State) : (callPoint c p rest s).par = s.par := rfl
@[simp] theorem callPoint_acc (c p : Point) (rest : List Point) (s : State) : (callPoint c p rest s).acc = s.acc := rfl
@[simp] theorem callPoint_ones (c p : Point) (rest : List Point) (s : State) : (callPoint c p rest s).ones = s.ones := rfl
@[simp] theorem callPoint_count (c p : Point) (rest : List Point) (s : State) : (callPoint c p rest s).count = s.count := rfl
@[simp] theorem callPoint_rep (c p : Point) (rest : List Point) (s : State) : (callPoint c p rest s).rep = s.rep := rfl
@[simp] theorem callPoint_ev (c p : Point) (rest : List Point) (s : State) : (callPoint c p rest s).ev = s.ev := rfl
@[simp] theorem callPoint_result (c p : Point) (rest : List Point) (s : State) : (callPoint c p rest s).result = s.result := rfl
@[simp] theorem callPoint_valued (c p : Point) (rest : List Point) (s : State) : (callPoint c p rest s).valued = s.valued := rfl
@[simp] theorem callPoint_seq (c p : Point) (rest : List Point) (s : State) : (callPoint c p rest s).seq = s.seq := rfl
@[simp] theorem callPoint_k (c p : Point) (rest : List Point) (s : State) : (callPoint c p rest s).k = s.k := rfl
@[simp] theorem callPoint_ctl (c p : Point) (rest : List Point) (s : State) : (callPoint c p rest s).ctl = ⟨c :: p :: rest, none⟩ := rfl
@[simp] theorem callPoint_done (c p : Point) (rest : List Point) (s : State) : (callPoint c p rest s).done = s.done := rfl
@[simp] theorem callPoint_device (c p : Point) (rest : List Point) (s : State) : (callPoint c p rest s).device = s.device := rfl
@[simp] theorem callPoint_inbox (c p : Point) (rest : List Point) (s : State) : (callPoint c p rest s).inbox = s.inbox := rfl
@[simp] theorem callPoint_trace (c p : Point) (rest : List Point) (s : State) : (callPoint c p rest s).trace = s.trace := rfl
@[simp] theorem callPoint_draws (c p : Point) (rest : List Point) (s : State) : (callPoint c p rest s).draws = s.draws := rfl

@[simp] theorem returnTo_clock (rest : List Point) (v : Int) (s : State) : (returnTo rest v s).clock = s.clock := by
  cases rest <;> rfl
@[simp] theorem returnTo_data (rest : List Point) (v : Int) (s : State) : (returnTo rest v s).data = s.data := by
  cases rest <;> rfl
@[simp] theorem returnTo_txb (rest : List Point) (v : Int) (s : State) : (returnTo rest v s).txb = s.txb := by
  cases rest <;> rfl
@[simp] theorem returnTo_i (rest : List Point) (v : Int) (s : State) : (returnTo rest v s).i = s.i := by
  cases rest <;> rfl
@[simp] theorem returnTo_par (rest : List Point) (v : Int) (s : State) : (returnTo rest v s).par = s.par := by
  cases rest <;> rfl
@[simp] theorem returnTo_acc (rest : List Point) (v : Int) (s : State) : (returnTo rest v s).acc = s.acc := by
  cases rest <;> rfl
@[simp] theorem returnTo_ones (rest : List Point) (v : Int) (s : State) : (returnTo rest v s).ones = s.ones := by
  cases rest <;> rfl
@[simp] theorem returnTo_count (rest : List Point) (v : Int) (s : State) : (returnTo rest v s).count = s.count := by
  cases rest <;> rfl
@[simp] theorem returnTo_rep (rest : List Point) (v : Int) (s : State) : (returnTo rest v s).rep = s.rep := by
  cases rest <;> rfl
@[simp] theorem returnTo_ev (rest : List Point) (v : Int) (s : State) : (returnTo rest v s).ev = s.ev := by
  cases rest <;> rfl
@[simp] theorem returnTo_result (rest : List Point) (v : Int) (s : State) : (returnTo rest v s).result = s.result := by
  cases rest <;> rfl
@[simp] theorem returnTo_valued (rest : List Point) (v : Int) (s : State) : (returnTo rest v s).valued = s.valued := by
  cases rest <;> rfl
@[simp] theorem returnTo_seq (rest : List Point) (v : Int) (s : State) : (returnTo rest v s).seq = s.seq := by
  cases rest <;> rfl
@[simp] theorem returnTo_k (rest : List Point) (v : Int) (s : State) : (returnTo rest v s).k = s.k := by
  cases rest <;> rfl
@[simp] theorem returnTo_device (rest : List Point) (v : Int) (s : State) : (returnTo rest v s).device = s.device := by
  cases rest <;> rfl
@[simp] theorem returnTo_inbox (rest : List Point) (v : Int) (s : State) : (returnTo rest v s).inbox = s.inbox := by
  cases rest <;> rfl
@[simp] theorem returnTo_trace (rest : List Point) (v : Int) (s : State) : (returnTo rest v s).trace = s.trace := by
  cases rest <;> rfl
@[simp] theorem returnTo_draws (rest : List Point) (v : Int) (s : State) : (returnTo rest v s).draws = s.draws := by
  cases rest <;> rfl

@[simp] theorem returnTo_nil_ctl (v : Int) (s : State) : (returnTo [] v s).ctl = .idle := rfl
@[simp] theorem returnTo_nil_done (v : Int) (s : State) : (returnTo [] v s).done = true := rfl
@[simp] theorem returnTo_cons_ctl (p : Point) (rest : List Point) (v : Int) (s : State) :
    (returnTo (p :: rest) v s).ctl = ⟨p :: rest, some v⟩ := rfl
@[simp] theorem returnTo_cons_done (p : Point) (rest : List Point) (v : Int) (s : State) :
    (returnTo (p :: rest) v s).done = s.done := rfl

/-- The caller's own operation: its value stands in `result`. -/
@[simp] theorem returnResult_nil (v : Int) (s : State) :
    returnResult [] v s = { finish v s with ctl := .idle, done := true } := rfl

/-- An inner operation hands its value on and leaves `result` alone. -/
@[simp] theorem returnResult_cons (p : Point) (rest : List Point) (v : Int) (s : State) :
    returnResult (p :: rest) v s = { s with ctl := ⟨p :: rest, some v⟩ } := rfl

@[simp] theorem abortTo_eq (rest : List Point) (v : Int) (s : State) : abortTo rest v s = returnResult rest v s := rfl

end Sys2Proof.Machine
end

