-- ==== Sys2Proof/Laws/Ops.lean ====
section
/-! SUPPORT. One lemma per shared operation that says what it can do: the sample of a line, the bounded wait, the parts of
an operation. -/

namespace Sys2Proof.Machine

/-! ## Samples -/

/-- A released line reads 0 exactly when the device pulls it; nothing but the device's entry is used up. -/
theorem look_released {l : Line} {s : State} (h : (readPin l s).mode = .released) :
    look l s = (!pulledOf l (nextPulls s), { s with device := s.device.tail }) := by
  simp [look, levelOf, contended, h]

theorem look_readPin (l l' : Line) (s : State) : readPin l' (look l s).2 = readPin l' s := by
  cases l' <;> rfl

/-! ## The wait -/

/-- A poll changes `count`, `device` and `draws` only. -/
theorem pollFrom_frame (l : Line) (v : Level) (budget : Nat) (d : List Pulls) (s : State) :
    (pollFrom l v budget d s).2 =
      { s with
        count := (pollFrom l v budget d s).2.count
        device := (pollFrom l v budget d s).2.device
        draws := (pollFrom l v budget d s).2.draws } := by
  induction d generalizing s with
  | nil => unfold pollFrom; split <;> rfl
  | cons p rest ih =>
    unfold pollFrom
    dsimp only
    split
    · rfl
    · split
      · rfl
      · rw [ih]; rfl

theorem pollFrom_readPin (l l' : Line) (v : Level) (budget : Nat) (d : List Pulls) (s : State) :
    readPin l' (pollFrom l v budget d s).2 = readPin l' s := by
  rw [pollFrom_frame]; cases l' <;> rfl

/-- A wait changes `count`, `device`, `draws` and the trace only. -/
theorem waitForLevel_frame (l : Line) (v : Level) (budget : Nat) (s : State) :
    (waitForLevel l v budget s).2 =
      { s with
        count := (waitForLevel l v budget s).2.count
        device := (waitForLevel l v budget s).2.device
        draws := (waitForLevel l v budget s).2.draws
        trace := s.trace ++ [waitEvent l v (waitForLevel l v budget s).1 (waitForLevel l v budget s).2.count] } := by
  simp only [waitForLevel, emit]
  rw [pollFrom_frame]

theorem waitForLevel_readPin (l l' : Line) (v : Level) (budget : Nat) (s : State) :
    readPin l' (waitForLevel l v budget s).2 = readPin l' s := by
  rw [waitForLevel_frame]; cases l' <;> rfl

/-- A poll that ends leaves `count` below the budget's end, or just above it when it fails. -/
theorem pollFrom_count (l : Line) (v : Level) (budget : Nat) (d : List Pulls) (s : State) (h : s.count ≤ budget) :
    if (pollFrom l v budget d s).1 then (pollFrom l v budget d s).2.count ≤ budget
    else (pollFrom l v budget d s).2.count = budget + 1 := by
  induction d generalizing s with
  | nil => unfold pollFrom; by_cases hv : levelOf (readPin l s) false s.draws = v <;> simp [hv, h]
  | cons p rest ih =>
    unfold pollFrom
    dsimp only
    by_cases hv : (look l s).1 = v
    · simp [hv, h]
    · simp only [hv, if_false]
      by_cases hc : (look l s).2.count + 1 > budget
      · simp only [hc, if_true]; simp at hc ⊢; omega
      · simp only [hc, if_false]; exact ih _ (by simpa using hc)

/-- A poll of a released line uses up entries of the device from the front and draws no free value. -/
theorem pollFrom_released (l : Line) (v : Level) (budget : Nat) (s : State)
    (h : (readPin l s).mode = .released) :
    (pollFrom l v budget s.device s).2.draws = s.draws ∧
      ∃ n, (pollFrom l v budget s.device s).2.device = s.device.drop n := by
  generalize hd : s.device = d
  induction d generalizing s with
  | nil => unfold pollFrom; split <;> exact ⟨rfl, 0, by simp [hd]⟩
  | cons p rest ih =>
    unfold pollFrom
    have hl := look_released h
    have hr : (look l s).2 = { s with device := rest } := by rw [hl]; simp [hd]
    dsimp only
    rw [hr]
    split
    · exact ⟨rfl, 1, rfl⟩
    · split
      · exact ⟨rfl, 1, rfl⟩
      · obtain ⟨h1, n, h2⟩ := ih { s with device := rest, count := s.count + 1 } (by cases l <;> exact h) rfl
        exact ⟨h1, n + 1, h2⟩

theorem waitForLevel_released (l : Line) (v : Level) (budget : Nat) (s : State)
    (h : (readPin l s).mode = .released) :
    (waitForLevel l v budget s).2.draws = s.draws ∧
      ∃ n, (waitForLevel l v budget s).2.device = s.device.drop n :=
  pollFrom_released l v budget { s with count := 0 } (by cases l <;> exact h)

/-- The device shows `lag` samples of the other level and then the awaited one. -/
theorem pollFrom_phase (v : Level) (budget lag : Nat) (rest : List Pulls) (s : State)
    (h : s.clock.mode = .released) (hc : s.count + lag ≤ budget) :
    pollFrom .clock v budget (clockPhase lag v ++ rest) { s with device := clockPhase lag v ++ rest } =
      (true, { s with count := s.count + lag, device := rest }) := by
  induction lag generalizing s with
  | zero =>
    simp [clockPhase, pollFrom, look, levelOf, h, nextPulls, clockAt, pulledOf, contended]
  | succ n ih =>
    have hp : clockPhase (n + 1) v ++ rest = clockAt (!v) :: (clockPhase n v ++ rest) := by
      simp [clockPhase, List.replicate_succ]
    rw [hp]
    have := ih { s with count := s.count + 1 } h (by simp; omega)
    simp only [pollFrom, look, levelOf, readPin_clock, h, nextPulls, pulledOf, clockAt, contended,
      List.headD_cons, List.tail_cons]
    have hn : ¬ (s.count + 1 > budget) := by omega
    simp [hn, this, Nat.add_assoc, Nat.add_comm 1 n]

theorem waitForLevel_phase (v : Level) (budget lag : Nat) (rest : List Pulls) (s : State)
    (h : s.clock.mode = .released) (hd : s.device = clockPhase lag v ++ rest) (hc : lag ≤ budget) :
    waitForLevel .clock v budget s =
      (true, { s with count := lag, device := rest, trace := s.trace ++ [waited lag v] }) := by
  have hp : pollFrom .clock v budget s.device { s with count := 0 } =
      (true, { s with count := lag, device := rest }) := by
    have hq := pollFrom_phase v budget lag rest { s with count := 0 } h (by simpa using hc)
    rw [← hd] at hq
    simpa using hq
  simp only [waitForLevel, hp]
  simp [emit, waited]

/-! ## Parts of an operation -/

@[simp] theorem Progress.andThen_going (s : State) (f : State → Progress) : (Progress.going s).andThen f = f s := rfl

@[simp] theorem Progress.andThen_aborted (code : Int) (s : State) (f : State → Progress) :
    (Progress.aborted code s).andThen f = .aborted code s := rfl

@[simp] theorem Progress.toResult_going (s : State) (f : State → Int) :
    (Progress.going s).toResult f = (f s, s) := rfl

@[simp] theorem Progress.toResult_aborted (code : Int) (s : State) (f : State → Int) :
    (Progress.aborted code s).toResult f = (code, s) := rfl

theorem Progress.andThen_assoc (p : Progress) (f g : State → Progress) :
    (p.andThen f).andThen g = p.andThen fun s => (f s).andThen g := by
  cases p <;> rfl

theorem waitOr_eq (l : Line) (v : Level) (code : Int) (s : State) :
    waitOr l v code s =
      if (waitForLevel l v Config.waitCeiling s).1 then .going (waitForLevel l v Config.waitCeiling s).2
      else .aborted code (waitForLevel l v Config.waitCeiling s).2 := rfl

theorem waitOr_phase (v : Level) (code : Int) (lag : Nat) (rest : List Pulls) (s : State)
    (h : s.clock.mode = .released) (hd : s.device = clockPhase lag v ++ rest) (hc : lag ≤ Config.waitCeiling) :
    waitOr .clock v code s = .going { s with count := lag, device := rest, trace := s.trace ++ [waited lag v] } := by
  rw [waitOr_eq, waitForLevel_phase v Config.waitCeiling lag rest s h hd hc]; rfl

@[simp] theorem abortWith_eq (code : Int) (s : State) : abortWith code s = (code, s) := rfl

@[simp] theorem readByte_eq (s : State) : readByte s = receiveByte s := rfl

/-- A wait that succeeds has taken one sample more than it counted, and paused between each two (R104). -/
theorem waitEvent_ok (l : Line) (v : Level) (n : Nat) :
    waitEvent l v true n = .wait l v true (n + 1) (n * Config.tPoll) := rfl

/-- A wait that fails has taken as many samples as it counted. -/
theorem waitEvent_failed (l : Line) (v : Level) (n : Nat) :
    waitEvent l v false n = .wait l v false n ((n - 1) * Config.tPoll) := rfl

/-- `exchange` is `writeAndReadAck`, and the payload reads after an acknowledgment. -/
theorem exchange_value (b : Byte) (payload : Nat) (s : State) :
    (exchange b payload s).1 = (writeAndReadAck b s).1 := by
  unfold exchange; dsimp only; split <;> rfl

/-! ## Widths (00_scope.md R6) -/

/-- The poll counter has room for every sample of a wait. -/
theorem maxSamples_fits_count : Config.maxSamples < 2 ^ Config.countW := by decide +kernel

/-- The report has the nominal number of bytes, of which one is never fetched. -/
theorem report_length (r : Report) : [r.b0, r.b1, r.b2, r.b3].length = Config.nReportNominal := rfl

/-- The initialisation list and its payload lengths have as many entries as the session steps through. -/
theorem init_lengths : Config.initCommands.length = Config.initLen ∧ Config.initPayloads.length = Config.initLen :=
  ⟨rfl, rfl⟩

end Sys2Proof.Machine
end

