-- ==== Sys2Proof/Laws/Frames.lean ====
section
/-! SUPPORT. What the shared operations leave alone (SameSession of Safety, and the result of the caller's operation), and
where a wait ends. -/

namespace Sys2Proof.Machine

/-! ## SameSession -/

theorem SameSession.refl (s : State) : SameSession s s :=
  ⟨rfl, rfl, rfl, rfl, rfl, rfl, rfl, rfl, ⟨0, rfl⟩, ⟨[], by simp⟩⟩

theorem SameSession.trans {s t u : State} (h : SameSession s t) (g : SameSession t u) : SameSession s u := by
  obtain ⟨n, hn⟩ := h.device
  obtain ⟨m, hm⟩ := g.device
  obtain ⟨a, ha⟩ := h.trace
  obtain ⟨b, hb⟩ := g.trace
  exact ⟨g.rep.trans h.rep, g.ev.trans h.ev, g.seq.trans h.seq, g.k.trans h.k, g.ctl.trans h.ctl,
    g.done.trans h.done, g.inbox.trans h.inbox, g.draws.trans h.draws,
    ⟨n + m, by rw [hm, hn, List.drop_drop]⟩, ⟨a ++ b, by rw [hb, ha, List.append_assoc]⟩⟩

theorem emit_same (e : Event) (s : State) : SameSession s (emit e s) :=
  ⟨rfl, rfl, rfl, rfl, rfl, rfl, rfl, rfl, ⟨0, rfl⟩, ⟨[e], rfl⟩⟩

theorem releaseLine_same (l : Line) (s : State) : SameSession s (releaseLine l s) := by
  cases l <;> exact ⟨rfl, rfl, rfl, rfl, rfl, rfl, rfl, rfl, ⟨0, rfl⟩, ⟨[_], rfl⟩⟩

theorem driveLine_same (l : Line) (v : Level) (s : State) : SameSession s (driveLine l v s) := by
  cases l <;> exact ⟨rfl, rfl, rfl, rfl, rfl, rfl, rfl, rfl, ⟨0, rfl⟩, ⟨[_], rfl⟩⟩

theorem delayFor_same (n : Nat) (s : State) : SameSession s (delayFor n s) := emit_same _ s

/-- The session does not see the result. -/
theorem finish_same (v : Int) (s : State) : SameSession s (finish v s) :=
  ⟨rfl, rfl, rfl, rfl, rfl, rfl, rfl, rfl, ⟨0, rfl⟩, ⟨[], by simp⟩⟩

theorem requestToSend_same (b : Byte) (s : State) : SameSession s (requestToSend b s) :=
  ⟨rfl, rfl, rfl, rfl, rfl, rfl, rfl, rfl, ⟨0, rfl⟩,
    ⟨_, by simp [requestToSend, releaseLine, delayFor, driveLine, emit, setPin]; rfl⟩⟩

theorem receiveStart_same (s : State) : SameSession s (receiveStart s) :=
  ⟨rfl, rfl, rfl, rfl, rfl, rfl, rfl, rfl, ⟨0, rfl⟩, ⟨_, by simp [receiveStart, releaseLine, delayFor, emit, setPin]; rfl⟩⟩

/-- A wait on a released line. -/
theorem waitForLevel_same (l : Line) (v : Level) (budget : Nat) (s : State) (h : (readPin l s).mode = .released) :
    SameSession s (waitForLevel l v budget s).2 := by
  have f := waitForLevel_frame l v budget s
  obtain ⟨hd, hn⟩ := waitForLevel_released l v budget s h
  exact ⟨by rw [f], by rw [f], by rw [f], by rw [f], by rw [f], by rw [f], by rw [f], hd, hn, ⟨_, by rw [f]⟩⟩

/-- A sample of a released line: the whole next state. -/
theorem sampleLine_released {l : Line} {s : State} (h : (readPin l s).mode = .released) :
    sampleLine l s = (!pulledOf l (nextPulls s),
      { s with device := s.device.tail, trace := s.trace ++ [.sample l (!pulledOf l (nextPulls s))] }) := by
  simp only [sampleLine, look_released h]; rfl

theorem sampleLine_same (l : Line) (s : State) (h : (readPin l s).mode = .released) :
    SameSession s (sampleLine l s).2 := by
  rw [sampleLine_released h]
  exact ⟨rfl, rfl, rfl, rfl, rfl, rfl, rfl, rfl, ⟨1, by simp⟩, ⟨_, rfl⟩⟩

/-- What a receive does with a sampled bit touches `acc` and `ones` only. -/
theorem takeSlot_frame (d : Level) (s : State) :
    (∃ a o, takeSlot d s = .going { s with acc := a, ones := o }) ∨ ∃ c, takeSlot d s = .aborted c s := by
  unfold takeSlot
  split
  · exact .inl ⟨_, _, rfl⟩
  · exact .inr ⟨_, rfl⟩

/-! ## The result is written at the end of the caller's operation only -/

/-- What the caller has been given: the value and whether there is one. -/
abbrev given (s : State) : Int × Bool := (s.result, s.valued)

/-- The state an operation in progress stands at. -/
def Progress.state : Progress → State
  | .going s => s
  | .aborted _ s => s

/-- What every part of an operation keeps, the whole keeps. -/
theorem Progress.andThen_keeps {α : Type} (f : State → α) (p : Progress) (g : State → Progress)
    (h : ∀ s, f (g s).state = f s) : f (p.andThen g).state = f p.state := by
  cases p with
  | going s => exact h s
  | aborted c s => rfl

theorem Progress.toResult_state (p : Progress) (f : State → Int) : (p.toResult f).2 = p.state := by
  cases p <;> rfl

theorem waitOr_given (l : Line) (v : Level) (code : Int) (s : State) : given (waitOr l v code s).state = given s := by
  have g : given (waitForLevel l v Config.waitCeiling s).2 = given s := by rw [waitForLevel_frame]
  rw [waitOr_eq]
  split <;> exact g

theorem takeSlot_given (d : Level) (s : State) : given (takeSlot d s).state = given s := by
  rcases takeSlot_frame d s with ⟨a, o, h⟩ | ⟨c, h⟩ <;> rw [h] <;> rfl

theorem sendSlots_given (ns : List Nat) (s : State) : given (sendSlots ns s).state = given s := by
  induction ns generalizing s with
  | nil => rfl
  | cons n rest ih =>
    simp only [sendSlots]
    rw [Progress.andThen_keeps given _ _ ih]
    unfold sendSlot
    rw [Progress.andThen_keeps given _ _ (waitOr_given _ _ _), waitOr_given]
    simp [given]

theorem ackCheck_given (s : State) : given (ackCheck s).state = given s := by
  unfold ackCheck
  dsimp only
  split
  · rfl
  · rw [Progress.andThen_keeps given _ _ fun t => (by rfl : given (Progress.going _).state = _), waitOr_given]; rfl

theorem recvSlots_given (ns : List Nat) (s : State) : given (recvSlots ns s).state = given s := by
  induction ns generalizing s with
  | nil => rfl
  | cons n rest ih =>
    simp only [recvSlots]
    rw [Progress.andThen_keeps given _ _ ih]
    unfold recvSlot
    rw [Progress.andThen_keeps given _ _ fun t => ?_, waitOr_given]
    rw [Progress.andThen_keeps given _ _ fun u => ?_, waitOr_given]
    dsimp only
    rw [takeSlot_given]; rfl

theorem sendByte_given (b : Byte) (s : State) : given (sendByte b s).2 = given s := by
  unfold sendByte
  rw [Progress.toResult_state, Progress.andThen_keeps given _ _ fun t => ?_, waitOr_given]
  · rfl
  · rw [Progress.andThen_keeps given _ _ ackCheck_given, sendSlots_given]

theorem receiveByte_given (s : State) : given (receiveByte s).2 = given s := by
  unfold receiveByte
  rw [Progress.toResult_state, Progress.andThen_keeps given _ _ fun t => (by rfl : given (Progress.going _).state = _),
    recvSlots_given]
  rfl

theorem writeAndReadAck_given (b : Byte) (s : State) : given (writeAndReadAck b s).2 = given s := by
  unfold writeAndReadAck
  dsimp only
  split
  · exact sendByte_given b s
  · split <;> exact (receiveByte_given _).trans (sendByte_given b s)

/-! ## Where a wait ends -/

theorem maxSamples_eq : Config.maxSamples = Config.waitCeiling + 1 := rfl

theorem waitForLevel_count (l : Line) (v : Level) (s : State) :
    (waitForLevel l v Config.waitCeiling s).2.count ≤ Config.maxSamples := by
  have h := pollFrom_count l v Config.waitCeiling s.device { s with count := 0 } (Nat.zero_le _)
  rw [maxSamples_eq]
  show (pollFrom l v Config.waitCeiling s.device { s with count := 0 }).2.count ≤ _
  split at h <;> omega

theorem afterSamples_set_count (l : Line) (m c : Nat) (t : State) :
    afterSamples l m { t with count := c } = { afterSamples l m t with count := c } := by
  induction m generalizing t with
  | zero => rfl
  | succ m ih => simp only [afterSamples]; rw [← ih]; cases l <;> rfl

theorem levelAtSample_set_count (l : Line) (m c : Nat) (t : State) :
    levelAtSample l m { t with count := c } = levelAtSample l m t := by
  unfold levelAtSample; rw [afterSamples_set_count]; cases l <;> rfl

theorem afterSamples_trace (l : Line) (m : Nat) (t : State) : (afterSamples l m t).trace = t.trace := by
  induction m generalizing t with
  | zero => rfl
  | succ m ih => simp only [afterSamples]; rw [ih]; rfl

/-- Where the device's entries have run out a sample changes nothing. -/
theorem afterSamples_no_device (l : Line) (n : Nat) (s : State) (h : s.device = []) : afterSamples l n s = s := by
  induction n with
  | zero => rfl
  | succ n ih =>
    have e : (look l s).2 = s := by
      simp only [look, nextPulls, h, List.tail_nil, List.headD_nil]
      cases l <;> simp [contended, pulledOf] <;> cases s <;> simp_all
    rw [afterSamples, e, ih]

theorem afterSamples_released (l : Line) (n : Nat) (s : State) (h : (readPin l s).mode = .released) :
    afterSamples l n s = { s with device := s.device.drop n } := by
  induction n generalizing s with
  | zero => rfl
  | succ n ih =>
    have e : (look l s).2 = { s with device := s.device.tail } := by rw [look_released h]
    have := ih { s with device := s.device.tail } (by cases l <;> exact h)
    simp only [afterSamples, e, this, List.drop_tail]

theorem levelAtSample_released (l : Line) (n : Nat) (s : State) (h : (readPin l s).mode = .released) :
    levelAtSample l n s = !pulledOf l ((s.device.drop n).headD ⟨false, false⟩) := by
  rw [levelAtSample, afterSamples_released l n s h, look_released (by cases l <;> exact h)]
  rfl

/-- The poll loop ends at the first sample that is the awaited level, else one sample above its budget. -/
theorem pollFrom_ends (l : Line) (v : Level) (budget : Nat) (s : State) (d : List Pulls) (hd : s.device = d)
    (hc : s.count ≤ budget) :
    (∀ n, s.count + n ≤ budget → levelAtSample l n s = v → (∀ m < n, levelAtSample l m s ≠ v) →
      pollFrom l v budget d s = (true, { afterSamples l (n + 1) s with count := s.count + n })) ∧
    ((∀ n, s.count + n ≤ budget → levelAtSample l n s ≠ v) →
      pollFrom l v budget d s =
        (false, { afterSamples l (budget + 1 - s.count) s with count := budget + 1 })) := by
  induction d generalizing s with
  | nil =>
    have hl : ∀ n, levelAtSample l n s = levelOf (readPin l s) false s.draws := by
      intro n
      unfold levelAtSample
      rw [afterSamples_no_device l n s hd]
      simp only [look, nextPulls, hd, List.headD_nil]
      cases l <;> rfl
    constructor
    · intro n hn h1 h2
      have : n = 0 := by
        by_contra h0
        exact h2 0 (by omega) (by rw [hl]; rw [hl] at h1; exact h1)
      subst this
      rw [hl] at h1
      simp [pollFrom, h1, afterSamples_no_device l 1 s hd]
    · intro h
      have := h 0 (by omega)
      rw [hl] at this
      simp [pollFrom, this, afterSamples_no_device _ _ s hd]
  | cons p rest ih =>
    by_cases hv : (look l s).1 = v
    · constructor
      · intro n hn h1 h2
        have : n = 0 := by
          by_contra hne
          exact h2 0 (by omega) hv
        subst this
        simp [pollFrom, hv, afterSamples]
        rfl
      · intro h
        exact absurd hv (h 0 (by omega))
    · by_cases hcc : s.count + 1 > budget
      · constructor
        · intro n hn h1 h2
          have : n = 0 := by omega
          subst this
          exact absurd h1 hv
        · intro h
          have e : budget + 1 - s.count = 1 := by omega
          have e2 : s.count = budget := by omega
          simp [pollFrom, hv, afterSamples, e2]
      · have hd' : ({ (look l s).2 with count := s.count + 1 } : State).device = rest := by simp [hd]
        obtain ⟨i1, i2⟩ := ih { (look l s).2 with count := s.count + 1 } hd' (by simp; omega)
        have hp : pollFrom l v budget (p :: rest) s =
            pollFrom l v budget rest { (look l s).2 with count := s.count + 1 } := by
          rw [pollFrom]; simp [hv, hcc]
        constructor
        · intro n hn h1 h2
          cases n with
          | zero => exact absurd h1 hv
          | succ n =>
            rw [hp, i1 n (by simp; omega) (by rw [levelAtSample_set_count]; exact h1)
              (by intro m hm; rw [levelAtSample_set_count]; exact h2 (m + 1) (by omega)), afterSamples_set_count]
            simp [afterSamples, Nat.add_assoc, Nat.add_comm 1 n]
        · intro h
          rw [hp, i2 (by intro n hn; rw [levelAtSample_set_count]; exact h (n + 1) (by simp at hn; omega)),
            afterSamples_set_count]
          have e : budget + 1 - s.count = (budget + 1 - (s.count + 1)) + 1 := by omega
          simp [e, afterSamples]

end Sys2Proof.Machine
end

