-- ==== Sys2Proof/Laws/PerInstr.lean ====
section
/-! SUPPORT. Laws stated once for every instruction as syntax: its word sets no bit above the width of its format
(30_encoding.md section 1; the request word of log 13). -/

namespace Sys2Proof.Laws

/-- How many bits a word of an instruction has: those of its format, and of a request as many as its operand needs. -/
def wordWidth : Instr → Nat
  | .cmdReset => 8
  | .cmdResend => 8
  | .cmdSetDefaults => 8
  | .cmdDisableDataReporting => 8
  | .cmdEnableDataReporting => 8
  | .cmdSetSampleRate => 8
  | .cmdGetDeviceId => 8
  | .cmdSetRemoteMode => 8
  | .cmdSetWrapMode => 8
  | .cmdResetWrapMode => 8
  | .cmdReadData => 8
  | .cmdSetStreamMode => 8
  | .cmdStatusRequest => 8
  | .cmdSetResolution => 8
  | .rspAck => 8
  | .frameD2H _ _ _ _ => 11
  | .frameH2D _ _ => 12
  | .reportFlags _ => 8
  | .reportX _ => 8
  | .reportY _ => 8
  | .reportZ _ => 8
  | .opBegin => 8
  | .opUpdate => 8
  | .opSetRes _ => 16
  | .opSetRate _ => 16
  | .opDelay _ => 24
  | .opSend _ => 16
  | .opRecv => 8
  | .opWra _ => 16
  | .opRead => 8
  | .opRelease _ => 9
  | .opDrive _ _ => 10
  | .opRdlvl _ => 9
  | .opWait _ _ => 10
  | .reserved0 => 8
  | .reserved6 => 8
  | .reserved7 => 8

/-- A zero-extended vector sets no bit above its own width. -/
theorem setWidth_fits {n : Nat} (b : BitVec n) : (b.setWidth 24).toNat < 2 ^ n :=
  Nat.lt_of_le_of_lt (by rw [BitVec.toNat_setWidth]; exact Nat.mod_le _ _) b.isLt

/-- A request word with an operand of `n` bits sets no bit above its last. -/
theorem operand_fits (sel : BitVec 4) (x : BitVec 16) (n : Nat) (h : x.toNat < 2 ^ n) :
    (encodeOperand sel x).bits.toNat < 2 ^ (n + 8) := by
  have hs : (0#4 ++ sel).toNat < 2 ^ 8 := (0#4 ++ sel).isLt
  simp only [encodeOperand, BitVec.toNat_append (x := x)]
  rw [Nat.shiftLeft_eq, Nat.mul_comm, ← Nat.two_pow_add_eq_or_of_lt hs, Nat.pow_add]
  omega

/-- A word without an operand is one byte. -/
theorem bare_fits (sel : BitVec 4) : (encodeBare sel).bits.toNat < 2 ^ 8 :=
  Nat.lt_of_lt_of_le (setWidth_fits sel) (by decide)

/-- An 8-bit operand in a request. -/
theorem byteOperand_fits (sel : BitVec 4) (b : Byte) : (encodeOperand sel (b.setWidth 16)).bits.toNat < 2 ^ 16 :=
  operand_fits sel _ 8 (by rw [BitVec.toNat_setWidth]; exact Nat.lt_of_le_of_lt (Nat.mod_le _ _) b.isLt)

namespace EncodingFits

/-- The word of the instruction fits its width. -/
def Statement (i : Instr) : Prop := (encode i).bits.toNat < 2 ^ wordWidth i

theorem cmdReset : Statement .cmdReset := setWidth_fits _
theorem cmdResend : Statement .cmdResend := setWidth_fits _
theorem cmdSetDefaults : Statement .cmdSetDefaults := setWidth_fits _
theorem cmdDisableDataReporting : Statement .cmdDisableDataReporting := setWidth_fits _
theorem cmdEnableDataReporting : Statement .cmdEnableDataReporting := setWidth_fits _
theorem cmdSetSampleRate : Statement .cmdSetSampleRate := setWidth_fits _
theorem cmdGetDeviceId : Statement .cmdGetDeviceId := setWidth_fits _
theorem cmdSetRemoteMode : Statement .cmdSetRemoteMode := setWidth_fits _
theorem cmdSetWrapMode : Statement .cmdSetWrapMode := setWidth_fits _
theorem cmdResetWrapMode : Statement .cmdResetWrapMode := setWidth_fits _
theorem cmdReadData : Statement .cmdReadData := setWidth_fits _
theorem cmdSetStreamMode : Statement .cmdSetStreamMode := setWidth_fits _
theorem cmdStatusRequest : Statement .cmdStatusRequest := setWidth_fits _
theorem cmdSetResolution : Statement .cmdSetResolution := setWidth_fits _
theorem rspAck : Statement .rspAck := setWidth_fits _
theorem frameD2H (start : Level) (data : Byte) (parity stop : Level) : Statement (.frameD2H start data parity stop) := setWidth_fits _
theorem frameH2D (data : Byte) (ack : Level) : Statement (.frameH2D data ack) := setWidth_fits _
theorem reportFlags (b : Byte) : Statement (.reportFlags b) := setWidth_fits _
theorem reportX (b : Byte) : Statement (.reportX b) := setWidth_fits _
theorem reportY (b : Byte) : Statement (.reportY b) := setWidth_fits _
theorem reportZ (b : Byte) : Statement (.reportZ b) := setWidth_fits _
theorem opBegin : Statement .opBegin := bare_fits _
theorem opUpdate : Statement .opUpdate := bare_fits _
theorem opSetRes (arg : Byte) : Statement (.opSetRes arg) := byteOperand_fits _ _
theorem opSetRate (arg : Byte) : Statement (.opSetRate arg) := byteOperand_fits _ _
theorem opDelay (n : Nat) : Statement (.opDelay n) := operand_fits _ _ 16 (BitVec.isLt _)
theorem opSend (b : Byte) : Statement (.opSend b) := byteOperand_fits _ _
theorem opRecv : Statement .opRecv := bare_fits _
theorem opWra (b : Byte) : Statement (.opWra b) := byteOperand_fits _ _
theorem opRead : Statement .opRead := bare_fits _
theorem opRelease (line : Line) : Statement (.opRelease line) := operand_fits _ _ 1 (by cases line <;> decide)
theorem opDrive (line : Line) (level : Level) : Statement (.opDrive line level) := operand_fits _ _ 2 (by cases line <;> cases level <;> decide)
theorem opRdlvl (line : Line) : Statement (.opRdlvl line) := operand_fits _ _ 1 (by cases line <;> decide)
theorem opWait (line : Line) (level : Level) : Statement (.opWait line level) := operand_fits _ _ 2 (by cases line <;> cases level <;> decide)
theorem reserved0 : Statement .reserved0 := bare_fits _
theorem reserved6 : Statement .reserved6 := bare_fits _
theorem reserved7 : Statement .reserved7 := bare_fits _

end EncodingFits

end Sys2Proof.Laws
end

