-- ==== Sys2Proof/Laws/Step.lean ====
section
/-! SUPPORT. What a step can be, and where the control state can go at one tick. -/

namespace Sys2Proof.Machine

theorem not_busy {s : State} (h : ¬ busy s = true) : s.ctl.stack = [] := by simpa [busy] using h

/-- Everything a step can find to do: a tick, a reset, an instruction on an idle block, the start of an operation on an idle
block, a request to turn away. -/
inductive Finds (s : State) : Fetched → Prop where
  | tick (rest : List Input) : Finds s (.moved (tick (arrived rest s)))
  | reset (rest : List Input) : Finds s (.moved (resetBlock rest s))
  | run (rest : List Input) (i : Instr) (h : s.ctl.stack = []) : Finds s (.run i (accept rest s))
  | start (rest : List Input) (i : Instr) (p : Point) (h : s.ctl.stack = []) (hp : startPoint i = some p) :
      Finds s (.moved (startAt p rest s))
  | turnedAway (r : Refusal) : Finds s (.turnedAway r)

theorem fetchWord_finds (w : RawWord) (rest : List Input) (s : State) (h : s.ctl.stack = []) :
    Finds s (fetchWord w rest s) := by
  unfold fetchWord
  split
  · exact .run _ _ h
  · exact .turnedAway _

theorem fetchCall_finds (sel : BitVec 4) (arg : Byte) (rest : List Input) (s : State) :
    Finds s (fetchCall sel arg rest s) := by
  unfold fetchCall
  split
  · exact .turnedAway _
  · split
    · exact .turnedAway _
    · exact fetchWord_finds _ _ _ (not_busy ‹_›)

theorem fetchIssue_finds (w : RawWord) (rest : List Input) (s : State) : Finds s (fetchIssue w rest s) := by
  unfold fetchIssue
  split
  · exact .turnedAway _
  · split
    · exact .turnedAway _
    · exact fetchWord_finds _ _ _ (not_busy ‹_›)

theorem fetchTransfer_finds (w : RawWord) (rest : List Input) (s : State) : Finds s (fetchTransfer w rest s) := by
  unfold fetchTransfer
  split
  · exact .turnedAway _
  · split
    · exact fetchWord_finds _ _ _ (not_busy ‹_›)
    · exact .turnedAway _

theorem fetchStart_finds (sel : BitVec 4) (arg : Byte) (rest : List Input) (s : State) :
    Finds s (fetchStart sel arg rest s) := by
  unfold fetchStart
  split
  · exact .turnedAway _
  · split
    · exact .turnedAway _
    · split
      · exact .turnedAway _
      · split
        · exact .start _ _ _ (not_busy ‹_›) ‹_›
        · exact .run _ _ (not_busy ‹_›)

theorem fetch_finds (s : State) : Finds s (fetch s) := by
  unfold fetch
  split
  · have e : s = arrived [] s := by simp only [arrived, ← ‹s.inbox = []›]
    rw [e]; exact .tick _
  · exact .tick _
  · exact .reset _
  · exact fetchCall_finds _ _ _ _
  · exact fetchStart_finds _ _ _ _
  · exact fetchIssue_finds _ _ _
  · exact fetchTransfer_finds _ _ _
  · exact .tick _

/-- A step that answers a next state is a tick, a reset, an instruction on an idle block, or the start of an operation on an
idle block. -/
theorem step_cases {s t : State} (h : step s = .next t) :
    (∃ rest, t = tick (arrived rest s)) ∨ (∃ rest, t = resetBlock rest s) ∨
    (∃ rest i, s.ctl.stack = [] ∧ exec i (accept rest s) = .next t) ∨
    ∃ rest i p, s.ctl.stack = [] ∧ startPoint i = some p ∧ t = startAt p rest s := by
  have f := fetch_finds s
  unfold step at h
  generalize fetch s = x at f h
  cases f with
  | tick rest => cases h; exact .inl ⟨rest, rfl⟩
  | reset rest => cases h; exact .inr (.inl ⟨rest, rfl⟩)
  | run rest i hs => exact .inr (.inr (.inl ⟨rest, i, hs, h⟩))
  | start rest i p hs hp => cases h; exact .inr (.inr (.inr ⟨rest, i, p, hs, hp, rfl⟩))
  | turnedAway r => cases h

/-! ## The control state after a tick -/

/-- Where the control state can go from a point: another point of the same operation, a call, a return, idle. -/
inductive ControlMove (p : Point) (rest : List Point) : Control → Prop where
  | goto (q : Point) (h : operationOf q = operationOf p) : ControlMove p rest ⟨q :: rest, none⟩
  | call (c : Point) (h : calls p = some (operationOf c)) : ControlMove p rest ⟨c :: p :: rest, none⟩
  | ret (v : Int) (h : rest ≠ []) : ControlMove p rest ⟨rest, some v⟩
  | idle (h : rest = []) : ControlMove p rest .idle

theorem returnTo_move (p : Point) (rest : List Point) (v : Int) (s : State) :
    ControlMove p rest (returnTo rest v s).ctl := by
  cases rest with
  | nil => exact .idle rfl
  | cons a b => exact .ret v (by simp)

theorem returnResult_move (p : Point) (rest : List Point) (v : Int) (s : State) :
    ControlMove p rest (returnResult rest v s).ctl := by
  cases rest with
  | nil => exact .idle rfl
  | cons a b => exact .ret v (by simp)

theorem abortTo_move (p : Point) (rest : List Point) (v : Int) (s : State) :
    ControlMove p rest (abortTo rest v s).ctl := returnResult_move _ _ _ _

theorem runPoint_move (p : Point) (rest : List Point) (s : State) : ControlMove p rest (runPoint p rest s).ctl := by
  cases p <;> simp only [runPoint]
  case w1 l v =>
    split
    · exact returnResult_move _ _ _ _
    · split
      · exact returnResult_move _ _ _ _
      · exact .goto _ rfl
  case s12 =>
    split
    · exact abortTo_move _ _ _ _
    · exact .goto _ rfl
  case v5 =>
    split
    · exact abortTo_move _ _ _ _
    · split <;> exact .goto _ rfl
  case b2 =>
    split
    · exact .call _ rfl
    · exact .goto _ rfl
  case b3 => split <;> exact .goto _ rfl
  case s14 => exact returnResult_move _ _ _ _
  case v6 => exact returnResult_move _ _ _ _
  case u2 => exact returnTo_move _ _ _ _
  all_goals first | exact .goto _ rfl | exact .call _ rfl

theorem resumePoint_move (p : Point) (v : Int) (rest : List Point) (s : State) :
    ControlMove p rest (resumePoint p v rest s).ctl := by
  cases p <;> simp only [resumePoint]
  case s11 =>
    split
    · split <;> exact .goto _ rfl
    · exact abortTo_move _ _ _ _
  case a0 =>
    split
    · exact returnResult_move _ _ _ _
    · exact .goto _ rfl
  case a1 => split <;> exact returnResult_move _ _ _ _
  case d0 => exact returnResult_move _ _ _ _
  case b1 =>
    split
    · exact .goto _ rfl
    · exact returnResult_move _ _ _ _
  case b4 => exact returnResult_move _ _ _ _
  case u1 => split <;> exact .goto _ rfl
  all_goals
    first
      | exact .goto _ rfl
      | (split
         · exact .goto _ rfl
         · exact abortTo_move _ _ _ _)

theorem returnResult_pins (rest : List Point) (v : Int) (s : State) :
    (returnResult rest v s).clock = s.clock ∧ (returnResult rest v s).data = s.data := by
  cases rest <;> exact ⟨rfl, rfl⟩

/-- Taking a returned value moves no line. -/
theorem resumePoint_pins (p : Point) (v : Int) (rest : List Point) (s : State) :
    (resumePoint p v rest s).clock = s.clock ∧ (resumePoint p v rest s).data = s.data := by
  have hs : (storeReport s.k v s).clock = s.clock ∧ (storeReport s.k v s).data = s.data := by
    unfold storeReport; split <;> exact ⟨rfl, rfl⟩
  cases p <;> simp only [resumePoint]
  case s11 =>
    split
    · split <;> exact ⟨rfl, rfl⟩
    · exact returnResult_pins _ _ _
  case a0 =>
    split
    · exact returnResult_pins _ _ _
    · exact ⟨rfl, rfl⟩
  case a1 => split <;> exact returnResult_pins _ _ _
  case d0 => exact returnResult_pins _ _ _
  case b1 =>
    split
    · exact ⟨rfl, rfl⟩
    · exact returnResult_pins _ _ _
  case b4 => exact returnResult_pins _ _ _
  case u1 => split <;> exact hs
  all_goals
    first
      | exact ⟨rfl, rfl⟩
      | (split
         · exact ⟨rfl, rfl⟩
         · exact returnResult_pins _ _ _)

end Sys2Proof.Machine
end

