-- ==== Sys2Proof/Tests/Slice0.lean ====
section
/-! SUPPORT. Tests with expected values from spec/95_test_vectors.md and the tables of spec/30_encoding.md, and for every
obligation with hypotheses a concrete state and operands that meet them. -/

namespace Sys2Proof.Tests

open Sys2Proof.Machine

-- One theorem at a time: the kernel evaluations below each hold a thread.
set_option Elab.async false

/-! ## Helpers -/

/-- Right after reset, with a device that answers like this and then is gone. -/
def withDevice (d : List Pulls) : State := { State.reset with device := d }

/-- Right after reset, with this waiting at the input. -/
def withInput (x : Input) : State := { State.reset with inbox := [x] }

/-- A state in the middle of a receive inside `update`, after a lost command: lines driven, a wait running. -/
def midOperation : State :=
  { State.reset with
    clock := ⟨.driven, false⟩, data := ⟨.driven, false⟩, i := 5, par := true, rep := ⟨1, 2, 3, 4⟩
    ctl := ⟨[.w1 .clock false, .v3, .d0, .u1], none⟩, device := [clockAt false], trace := [.delay 10] }

/-- The outcome is a next state of which this holds. -/
def ran (o : Host.Outcome State Fault Refusal) (p : State → Bool) : Bool :=
  match o with
  | .next t => p t
  | _ => false

/-- The outcome is this refusal. -/
def turnedAway (o : Host.Outcome State Fault Refusal) (r : Refusal) : Bool :=
  match o with
  | .refused r' => r' == r
  | _ => false

/-- The lines after a transfer that worked. -/
def linesHeld (t : State) : Bool := t.clock == ⟨.driven, false⟩ && t.data == ⟨.released, true⟩

/-- The lines after a receive that failed. -/
def linesFree (t : State) : Bool := t.clock == ⟨.released, true⟩ && t.data == ⟨.released, true⟩

/-! ## Well-formedness -/

/-- `DELAY` has a 16-bit operand field (log 13). -/
theorem test_wellFormed_refuses_wide_delay :
    Instr.wellFormed (.opDelay 65536) = false ∧ Instr.wellFormed (.opDelay 65535) = true := by decide

/-! ## Decoding: a word of every constructor, written out from the tables -/

/-- 30_encoding.md R85. -/
theorem test_decode_command_bytes :
    decode ⟨.commandByte, 0xFF⟩ = .ok .cmdReset ∧ decode ⟨.commandByte, 0xFE⟩ = .ok .cmdResend ∧
    decode ⟨.commandByte, 0xF6⟩ = .ok .cmdSetDefaults ∧
    decode ⟨.commandByte, 0xF5⟩ = .ok .cmdDisableDataReporting ∧
    decode ⟨.commandByte, 0xF4⟩ = .ok .cmdEnableDataReporting ∧
    decode ⟨.commandByte, 0xF3⟩ = .ok .cmdSetSampleRate ∧ decode ⟨.commandByte, 0xF2⟩ = .ok .cmdGetDeviceId ∧
    decode ⟨.commandByte, 0xF0⟩ = .ok .cmdSetRemoteMode ∧ decode ⟨.commandByte, 0xEE⟩ = .ok .cmdSetWrapMode ∧
    decode ⟨.commandByte, 0xEC⟩ = .ok .cmdResetWrapMode ∧ decode ⟨.commandByte, 0xEB⟩ = .ok .cmdReadData ∧
    decode ⟨.commandByte, 0xEA⟩ = .ok .cmdSetStreamMode ∧ decode ⟨.commandByte, 0xE9⟩ = .ok .cmdStatusRequest ∧
    decode ⟨.commandByte, 0xE8⟩ = .ok .cmdSetResolution := by decide

/-- 30_encoding.md R70, R74, R76, R77, and the frame words of 95_test_vectors.md section 3.1. -/
theorem test_decode_wire_items :
    decode ⟨.responseByte, 0xFA⟩ = .ok .rspAck ∧
    decode ⟨.wireFrame11, 0x7F4⟩ = .ok (.frameD2H false 0xFA true true) ∧
    decode ⟨.wireFrame11, 0x5E8⟩ = .ok (.frameD2H false 0xF4 false true) ∧
    decode ⟨.wireFrame11, 0x7FF⟩ = .ok (.frameD2H true 0xFF true true) ∧
    decode ⟨.wireFrame12, 0x7D6⟩ = .ok (.frameH2D 0xEB false) ∧
    decode ⟨.wireFrame12, 0xFDC⟩ = .ok (.frameH2D 0xEE true) ∧
    decode ⟨.wireFrame12, 0xE00⟩ = .ok (.frameH2D 0x00 true) ∧
    decode ⟨.reportByte1, 0x29⟩ = .ok (.reportFlags 0x29) ∧ decode ⟨.reportByte2, 0x05⟩ = .ok (.reportX 0x05) ∧
    decode ⟨.reportByte3, 0xFB⟩ = .ok (.reportY 0xFB) ∧ decode ⟨.reportByte4, 0x80⟩ = .ok (.reportZ 0x80) := by decide

/-- 30_encoding.md R86: bits 3..0 the operation-select code, bits 15..8 the operand byte. -/
theorem test_decode_requests :
    decode ⟨.opSel, 0x000001⟩ = .ok .opBegin ∧ decode ⟨.opSel, 0x000002⟩ = .ok .opUpdate ∧
    decode ⟨.opSel, 0x000303⟩ = .ok (.opSetRes 0x03) ∧ decode ⟨.opSel, 0x006404⟩ = .ok (.opSetRate 0x64) ∧
    decode ⟨.opSel, 0x00F408⟩ = .ok (.opSend 0xF4) ∧ decode ⟨.opSel, 0x000009⟩ = .ok .opRecv ∧
    decode ⟨.opSel, 0x00EB0A⟩ = .ok (.opWra 0xEB) ∧ decode ⟨.opSel, 0x00000B⟩ = .ok .opRead ∧
    decode ⟨.opSel, 0x000000⟩ = .ok .reserved0 ∧ decode ⟨.opSel, 0x000006⟩ = .ok .reserved6 ∧
    decode ⟨.opSel, 0x000007⟩ = .ok .reserved7 := by decide

/-- 30_encoding.md R86 for the codes; the operand bits of the internal operations are the model's (log 13). -/
theorem test_decode_internal_operations :
    decode ⟨.opSel, 0x012C05⟩ = .ok (.opDelay 300) ∧ decode ⟨.opSel, 0x00000C⟩ = .ok (.opRelease .clock) ∧
    decode ⟨.opSel, 0x00010C⟩ = .ok (.opRelease .data) ∧ decode ⟨.opSel, 0x00000D⟩ = .ok (.opDrive .clock false) ∧
    decode ⟨.opSel, 0x00030D⟩ = .ok (.opDrive .data true) ∧ decode ⟨.opSel, 0x00010E⟩ = .ok (.opRdlvl .data) ∧
    decode ⟨.opSel, 0x00020F⟩ = .ok (.opWait .clock true) := by decide

theorem test_decode_rejects_by_name :
    decode ⟨.commandByte, 0xF7⟩ = .error .unknownCommand ∧ decode ⟨.commandByte, 0x1EB⟩ = .error .highBits ∧
    decode ⟨.responseByte, 0xFE⟩ = .error .unknownResponse ∧ decode ⟨.wireFrame11, 0x800⟩ = .error .highBits ∧
    decode ⟨.wireFrame12, 0x7D7⟩ = .error .frameNeverSent ∧ decode ⟨.wireFrame12, 0x5D6⟩ = .error .frameNeverSent ∧
    decode ⟨.reportByte1, 0x100⟩ = .error .highBits ∧ decode ⟨.opSel, 0x11⟩ = .error .highBits ∧
    decode ⟨.opSel, 0x02000C⟩ = .error .operandBits ∧ decode ⟨.opSel, 0x00020E⟩ = .error .operandBits := by decide

/-- The bare words of the table (log 14). -/
theorem test_table_words :
    decodeTableWord 8 0xEB = some .cmdReadData ∧ decodeTableWord 8 0xFA = some .rspAck ∧
    decodeTableWord 8 0x0B = some .opRead ∧ decodeTableWord 16 0x7F4 = some (.frameD2H false 0xFA true true) ∧
    decodeTableWord 16 0xE00 = some (.frameH2D 0x00 true) ∧ decodeTableWord 8 0x10 = none := by decide

/-! ## Line transport: T16, T17 -/

theorem test_release_data : ran (exec (.opRelease .data) midOperation)
    (fun t => t.data == ⟨.released, true⟩ && t.clock == ⟨.driven, false⟩) = true := by decide

theorem test_drive_clock : ran (exec (.opDrive .clock false) State.reset)
    (fun t => t.clock == ⟨.driven, false⟩ && t.data == ⟨.released, true⟩) = true := by decide

theorem test_rdlvl_pulled : ran (exec (.opRdlvl .data) (withDevice [dataAt false])) (fun t => t.result == 0) = true := by
  decide

theorem test_rdlvl_idle : ran (exec (.opRdlvl .data) State.reset) (fun t => t.result == 1) = true := by decide

theorem test_delay : ran (exec (.opDelay 300) midOperation)
    (fun t => t.clock == ⟨.driven, false⟩ && t.i == 5 && t.trace == [.delay 10, .delay 300]) = true := by decide

theorem test_wait_no_device : ran (exec (.opWait .clock false) State.reset)
    (fun t => t.result == 0 && t.count == 1000001) = true := by decide +kernel

/-- 40_line_transport.md R104: two polls in vain, a pause after each. -/
theorem test_wait_pauses : ran (exec (.opWait .clock false) (withDevice (clockPhase 2 false)))
    (fun t => t.result == 1 && t.count == 2 && t.trace == [.wait .clock false true 3 2]) = true := by decide

theorem test_wait_first_sample : ran (exec (.opWait .clock false) (withDevice [clockAt false]))
    (fun t => t.result == 1 && t.count == 0) = true := by decide

/-! ## Byte transport: T1 to T11 -/

set_option maxRecDepth 20000 in
/-- T1. -/
theorem test_send_read_data : ran (exec (.opSend 0xEB) (withDevice (txAnswers 0 false)))
    (fun t => t.result == 0 && linesHeld t && t.txb == 0xEB && t.par && t.i == 9 &&
      dataLine t.trace == [true, false, true, true, false, true, false, true, true, true, true, true]) = true := by
  decide

set_option maxRecDepth 20000 in
/-- T9b: clocked through slot 7, then the clock stays high. -/
theorem test_send_stuck_clock : ran (exec (.opSend 0xF4) (withDevice (clockPhase 0 false ++ clockCycles 0 8)))
    (fun t => t.result == -27 && t.data == ⟨.driven, false⟩ && t.clock == ⟨.released, true⟩) = true := by
  decide +kernel

set_option maxRecDepth 20000 in
/-- T2. -/
theorem test_recv_ack : ran (exec .opRecv (withDevice (byteAnswers 0 0xFA)))
    (fun t => t.result == 250 && t.acc == 0xFA && t.ones == 6 && linesHeld t) = true := by decide

set_option maxRecDepth 20000 in
/-- T4: the parity slot flipped; the stop slot is left. -/
theorem test_recv_parity : ran
    (exec .opRecv (withDevice
      (rxAnswers 0 [false, false, true, false, true, true, true, true, true, false, true])))
    (fun t => t.result == -5 && linesFree t && t.device.length == 3) = true := by decide

set_option maxRecDepth 20000 in
/-- T2b. -/
theorem test_read_byte : ran (exec .opRead (withDevice (byteAnswers 0 0x05)))
    (fun t => t.result == 5 && linesHeld t) = true := by decide

/-- T6. -/
theorem test_read_no_device : ran (exec .opRead State.reset) (fun t => t.result == -40 && linesFree t) = true := by
  decide +kernel

set_option maxRecDepth 20000 in
/-- T11, T11d. -/
theorem test_wra_replies :
    ran (exec (.opWra 0xEB) (withDevice (exchAnswers 0 0xFA []))) (fun t => t.result == 250 && linesHeld t) = true ∧
    ran (exec (.opWra 0xEB) (withDevice (exchAnswers 0 0xFE []))) (fun t => t.result == 254) = true := by decide +kernel

set_option maxRecDepth 20000 in
/-- T11b, T11c. -/
theorem test_wra_sentinels :
    ran (exec (.opWra 0xEB) (withDevice (txAnswers 0 false ++ rxAnswers 0 [true]))) (fun t => t.result == -101) =
      true ∧
    ran (exec (.opWra 0xEB) State.reset) (fun t => t.result == -100 && t.data == ⟨.driven, false⟩) = true := by
  decide +kernel

/-! ## Device session: T12, T13, T18, P1, P2, P4 -/

set_option maxRecDepth 20000 in
/-- T12. -/
theorem test_update_report : ran (exec .opUpdate (withDevice (exchAnswers 0 0xFA [0x29, 0x05, 0xFB])))
    (fun t => t.ev.btnLeft && !t.ev.btnRight && !t.ev.btnCenter && t.ev.moveX == 5 && t.ev.moveY == -5 &&
      linesHeld t) = true := by decide +kernel

set_option maxRecDepth 20000 in
/-- P4: a report with a corrupted second frame. -/
theorem test_update_corrupted : ran
    (exec .opUpdate (withDevice (txAnswers 0 false ++ byteAnswers 0 0xFA ++ byteAnswers 0 0x0A ++
      rxAnswers 0 [false, true, true, true, false, false, false, false, false, true, true] ++ byteAnswers 0 0x03)))
    (fun t => t.rep.b0 == 0x0A && !t.ev.btnLeft && t.ev.btnRight && !t.ev.btnCenter && t.result == 0 &&
      !t.valued && linesFree t) = true := by decide +kernel

/-- P3, 60_exceptions.md R178: a caller of a failed update is given no code. -/
theorem test_update_returns_nothing :
    ran (step { withInput (.call 0x2 0x00) with result := -40, valued := true })
      (fun t => opResult t == none && opDone t && linesFree t) = true := by decide +kernel

/-- 42_device_session.md R133: a failed payload read is one payload read; R132: a sentinel ends the session. -/
theorem test_begin_points :
    ran (step { State.reset with ctl := ⟨[.b2], some (-40)⟩, k := 1 })
      (fun t => t.ctl == ⟨[.b2], none⟩ && t.k == 2) = true ∧
    ran (step { State.reset with ctl := ⟨[.b1], some (-101)⟩ })
      (fun t => t.ctl == .idle && opResult t == some 0 && t.done) = true ∧
    ran (step { State.reset with ctl := ⟨[.b1], some 250⟩, k := 3 })
      (fun t => t.ctl == ⟨[.b2], none⟩ && t.k == 0) = true := by decide

/-- 42_device_session.md R138: the report bytes on either side of a failed read. -/
theorem test_update_points :
    ran (step { State.reset with ctl := ⟨[.u1], some (-5)⟩, k := 1, rep := ⟨9, 9, 9, 9⟩ })
      (fun t => t.rep.b0 == 9 && t.rep.b2 == 9 && t.k == 2 && t.ctl == ⟨[.u1], none⟩) = true ∧
    ran (step { State.reset with ctl := ⟨[.u1], some 255⟩, k := 2, rep := ⟨9, 9, 9, 9⟩ })
      (fun t => t.rep == ⟨9, 9, 255, 9⟩ && t.ctl == ⟨[.u2], none⟩) = true := by decide

/-- T13: rows 1, 2, 4, 5, 6, 7, 9, 10, 13, 14 of the decode table. -/
theorem test_decode_table :
    [(0x08, 0x01, 0x01), (0x38, 0xFF, 0xFF), (0x18, 0x00, 0x00), (0x28, 0x00, 0x00), (0x08, 0xFF, 0xFF),
      (0x07, 0x00, 0x00), (0x3F, 0x80, 0x7F), (0xC8, 0x10, 0x10), (0x02, 0x00, 0x00), (0x04, 0x00, 0x00)].map
      (fun (r : Byte × Byte × Byte) =>
        let e := decodeEvent ⟨r.1, r.2.1, r.2.2, 0⟩ 0
        (e.btnLeft, e.btnRight, e.btnCenter, e.moveX, e.moveY)) =
    [(false, false, false, 1, 1), (false, false, false, -1, -1), (false, false, false, -256, 0),
      (false, false, false, 0, -256), (false, false, false, 255, 255), (true, true, true, 0, 0),
      (true, true, true, -128, -129), (false, false, false, 16, 16), (false, true, false, 0, 0),
      (false, false, true, 0, 0)] := by decide

set_option maxRecDepth 20000 in
/-- The end of P1: the last entry of the list, then the report. -/
theorem test_begin_last_entry : ran
    (answer (beginFrom [6]
      (withDevice (exchAnswers 0 0xFA [0x08, 0x00, 0x00] ++ exchAnswers 0 0xFA [0x29, 0x05, 0xFB]))))
    (fun t => t.result == 1 && t.ev.btnLeft && t.ev.moveX == 5 && t.ev.moveY == -5 && linesHeld t &&
      t.device.length == 0) = true := by decide +kernel

set_option maxRecDepth 100000 in
/-- P2. -/
theorem test_begin_refused : ran
    (exec .opBegin (withDevice
      (exchAnswers 0 0xFA [0xAA, 0x00] ++ exchAnswers 0 0xFA [0x00, 0x02, 0x64] ++ exchAnswers 0 0xFE [])))
    (fun t => t.result == 0 && t.seq == 2 && linesHeld t && t.device.length == 0) = true := by decide +kernel

/-- T18. -/
theorem test_setters : exec (.opSetRes 0x03) midOperation = .next midOperation ∧
    exec (.opSetRate 0x64) midOperation = .next midOperation := ⟨rfl, rfl⟩

/-- 30_encoding.md R79, R86: after a setter there is no result, whatever an older operation returned. -/
theorem test_setter_returns_nothing :
    ran (step { withInput (.call 0x3 0x03) with result := -40, valued := true })
      (fun t => opResult t == none && t.done) = true ∧
    ran (step (withInput (.call 0xB 0x00))) (fun t => opResult t == some 0xFFD8) = true := by decide +kernel

/-! ## Wire items -/

set_option maxRecDepth 20000 in
/-- T3, T5. -/
theorem test_frame_from_device :
    ran (exec (.frameD2H true 0xFA true true) State.reset) (fun t => t.result == -4 && linesFree t) = true ∧
    ran (exec (.frameD2H false 0xFA true false) State.reset) (fun t => t.result == -6 && linesFree t) = true := by
  decide +kernel

set_option maxRecDepth 20000 in
/-- T8. -/
theorem test_frame_to_device : ran (exec (.frameH2D 0xF4 true) State.reset)
    (fun t => t.result == -2 && linesFree t) = true := by decide +kernel

set_option maxRecDepth 20000 in
theorem test_ack : ran (exec .rspAck State.reset) (fun t => t.result == 250 && linesHeld t) = true := by decide +kernel

set_option maxRecDepth 20000 in
/-- T12, byte by byte. -/
theorem test_report_bytes :
    ran (exec (.reportFlags 0x29) State.reset) (fun t => t.rep == ⟨0x29, 0, 0, 0⟩) = true ∧
    ran (exec (.reportX 0x05) { State.reset with rep := ⟨0x29, 0, 0, 0⟩ })
      (fun t => t.rep == ⟨0x29, 0x05, 0, 0⟩ && t.ev.moveX == 0) = true ∧
    ran (exec (.reportY 0xFB) { State.reset with rep := ⟨0x29, 0x05, 0, 0⟩ })
      (fun t => t.rep == ⟨0x29, 0x05, 0xFB, 0⟩ && t.ev.moveX == 5 && t.ev.moveY == -5) = true := by decide +kernel

theorem test_report_z : exec (.reportZ 0x55) midOperation = .next midOperation := rfl

/-! ## Command bytes -/

set_option maxRecDepth 20000 in
/-- Payload lengths: 43_commands.md R150 to R154 (what is left of six offered bytes: 33 answers each). -/
theorem test_command_payloads :
    [Instr.cmdReset, .cmdSetDefaults, .cmdSetRemoteMode, .cmdStatusRequest, .cmdReadData].map (fun i =>
      ran (exec i (withDevice (exchAnswers 0 0xFA [1, 2, 3, 4, 5, 6])))
        (fun t => t.device.length ==
          33 * (match i with | .cmdReset => 4 | .cmdSetDefaults => 6 | .cmdSetRemoteMode => 6 | _ => 3))) =
    [true, true, true, true, true] := by decide +kernel

set_option maxRecDepth 20000 in
/-- The byte each inert command sends: 43_commands.md R155 to R163. -/
theorem test_inert_commands :
    [Instr.cmdResend, .cmdDisableDataReporting, .cmdEnableDataReporting, .cmdSetSampleRate, .cmdGetDeviceId,
      .cmdSetWrapMode, .cmdResetWrapMode, .cmdSetStreamMode, .cmdSetResolution].map (fun i =>
      match exec i (withDevice (exchAnswers 0 0xFA [1])) with
      | .next t => (t.txb, t.result, t.device.length)
      | _ => (0, 0, 0)) =
    [(0xFE, 250, 33), (0xF5, 250, 33), (0xF4, 250, 33), (0xF3, 250, 33), (0xF2, 250, 33), (0xEE, 250, 33),
      (0xEC, 250, 33), (0xEA, 250, 33), (0xE8, 250, 33)] := by decide +kernel

/-! ## Steps -/

theorem test_reserved_codes_refused :
    turnedAway (step (withInput (.call 0x0 0))) (.reservedCode 0x0) = true ∧
    turnedAway (step (withInput (.start 0x6 0))) (.reservedCode 0x6) = true ∧
    turnedAway (step (withInput (.call 0x7 0))) (.reservedCode 0x7) = true ∧
    turnedAway (step (withInput (.call 0xC 0))) (.internalCode 0xC) = true := by decide

theorem test_busy_refused :
    turnedAway (step { midOperation with inbox := [.call 0x9 0] }) .busy = true ∧
    turnedAway (step { midOperation with inbox := [.transfer ⟨.responseByte, 0xFA⟩] }) .busy = true := by decide

/-- 60_exceptions.md R174, R192: what the device shows unasked is not received, and is no request. -/
theorem test_shown_not_received :
    step (withInput (.shown ⟨.reportByte3, 0x05⟩)) = .next State.reset ∧
    turnedAway (step (withInput (.issue ⟨.reportByte3, 0x05⟩))) .wrongKind = true ∧
    turnedAway (step (withInput (.transfer ⟨.commandByte, 0xEB⟩))) .wrongKind = true :=
  ⟨rfl, by decide, by decide⟩

/-- 70_reset_and_hazards.md R201. -/
theorem test_reset_in_mid_operation : ran (step { midOperation with inbox := [.reset] })
    (fun t => linesFree t && t.ctl == .idle) = true := by decide

/-- 10_state.md R34: a poll that fails, then the pause, then the poll again. -/
theorem test_poll_goes_on : ran (step { midOperation with clock := ⟨.released, true⟩, device := [clockAt true] })
    (fun t => t.count == 1 && t.ctl.stack.head? == some (.w2 .clock false)) = true := by decide

set_option maxRecDepth 20000 in
/-- T2, control point by control point: one step for each point of R36, three for each wait and one to take its value. -/
theorem test_started_receive : ran
    (Host.Core.run Sys2Proof.core 124 { withInput (.start 0x9 0) with device := byteAnswers 0 0xFA })
    (fun t => t.result == 250 && t.done && t.ctl == .idle && linesHeld t) = true := by decide +kernel

set_option maxRecDepth 20000 in
/-- A word runs as the first instruction after reset. -/
theorem test_fetch_word :
    ran (step (State.reset.withFetchWord 8 0x0B)) (fun t => opResult t == some 0xFFD8 && t.done) = true ∧
    ran (step (State.reset.withFetchWord 8 0xFA)) (fun t => t.result == 250) = true ∧
    ran (step (withInput (.issue ⟨.opSel, 0x30D⟩))) (fun t => t.data == ⟨.driven, true⟩) = true := by decide +kernel

/-! ## Witnesses: states and operands that meet the hypotheses of each obligation -/

theorem withDevice_device (d : List Pulls) : (withDevice d).device = d := rfl

/-- A device that lowers the clock for one sample, after `n` idle ones. -/
def lateDevice (n : Nat) : State := withDevice (List.replicate n ⟨false, false⟩ ++ [clockAt false])

theorem witness_ResetEndsTheOperationAndReleasesLines :
    ∃ (s : State) (rest : List Input), s.inbox = .reset :: rest ∧ s.ctl.stack.length = 4 :=
  ⟨{ midOperation with inbox := [.reset, .pass] }, [.pass], rfl, rfl⟩

theorem witness_StepRunsTheDecodedInstruction_issue :
    ∃ (s : State) (rest : List Input) (i : Instr) (w : RawWord),
      s.ctl.stack = [] ∧ s.inbox = .issue w :: rest ∧ isItem w.format = false ∧ decode w = .ok i :=
  ⟨withInput (.issue ⟨.commandByte, 0xE8⟩), [], .cmdSetResolution, ⟨.commandByte, 0xE8⟩, rfl, rfl, rfl, by decide⟩

theorem witness_StepRunsTheDecodedInstruction_transfer :
    ∃ (s : State) (rest : List Input) (i : Instr) (w : RawWord),
      s.ctl.stack = [] ∧ s.inbox = .transfer w :: rest ∧ isItem w.format = true ∧ decode w = .ok i :=
  ⟨withInput (.transfer ⟨.wireFrame12, 0x7D6⟩), [], .frameH2D 0xEB false, ⟨.wireFrame12, 0x7D6⟩, rfl, rfl, rfl,
    by decide⟩

theorem witness_StepRunsTheDecodedInstruction_wrong_kind :
    (∃ (s : State) (rest : List Input) (w : RawWord),
      s.ctl.stack = [] ∧ s.inbox = .issue w :: rest ∧ isItem w.format = true) ∧
    ∃ (s : State) (rest : List Input) (w : RawWord),
      s.ctl.stack = [] ∧ s.inbox = .transfer w :: rest ∧ isItem w.format = false :=
  ⟨⟨withInput (.issue ⟨.responseByte, 0xFA⟩), [], ⟨.responseByte, 0xFA⟩, rfl, rfl, rfl⟩,
    withInput (.transfer ⟨.opSel, 0x01⟩), [], ⟨.opSel, 0x01⟩, rfl, rfl, rfl⟩

theorem witness_StepRunsTheDecodedInstruction_call :
    ∃ (s : State) (rest : List Input) (i : Instr) (sel : BitVec 4) (arg : Byte),
      s.ctl.stack = [] ∧ s.inbox = .call sel arg :: rest ∧ internalCode sel = false ∧
      decode (portWord sel arg) = .ok i :=
  ⟨withInput (.call 0x8 0xFF), [], .opSend 0xFF, 0x8, 0xFF, rfl, rfl, by decide, by decide⟩

theorem witness_StepRunsTheDecodedInstruction_start :
    ∃ (s : State) (rest : List Input) (i : Instr) (sel : BitVec 4) (arg : Byte) (p : Point),
      s.ctl.stack = [] ∧ s.inbox = .start sel arg :: rest ∧ internalCode sel = false ∧
      decode (portWord sel arg) = .ok i ∧ startPoint i = some p :=
  ⟨withInput (.start 0xA 0xEB), [], .opWra 0xEB, 0xA, 0xEB, .a0 0xEB, rfl, rfl, by decide, by decide, rfl⟩

theorem witness_StepRunsTheDecodedInstruction_start_without_points :
    ∃ (s : State) (rest : List Input) (i : Instr) (sel : BitVec 4) (arg : Byte),
      s.ctl.stack = [] ∧ s.inbox = .start sel arg :: rest ∧ internalCode sel = false ∧
      decode (portWord sel arg) = .ok i ∧ startPoint i = none :=
  ⟨withInput (.start 0x3 0x03), [], .opSetRes 0x03, 0x3, 0x03, rfl, rfl, by decide, by decide, rfl⟩

theorem witness_StepRunsTheDecodedInstruction_undecodable :
    (∃ (s : State) (rest : List Input) (w : RawWord) (e : DecodeError),
      s.ctl.stack = [] ∧ s.inbox = .issue w :: rest ∧ isItem w.format = false ∧ decode w = .error e) ∧
    ∃ (s : State) (rest : List Input) (w : RawWord) (e : DecodeError),
      s.ctl.stack = [] ∧ s.inbox = .transfer w :: rest ∧ isItem w.format = true ∧ decode w = .error e :=
  ⟨⟨withInput (.issue ⟨.commandByte, 0x00⟩), [], ⟨.commandByte, 0x00⟩, .unknownCommand, rfl, rfl, rfl, by decide⟩,
    withInput (.transfer ⟨.wireFrame11, 0x800⟩), [], ⟨.wireFrame11, 0x800⟩, .highBits, rfl, rfl, rfl, by decide⟩

theorem witness_StepRunsTheDecodedInstruction_tick :
    midOperation.inbox = [] ∧ (State.reset.inbox = [] ∧ State.reset.ctl.stack = []) ∧
    (∃ (s : State) (rest : List Input), s.inbox = Input.pass :: rest ∧ s.ctl = midOperation.ctl) ∧
    ∃ (s : State) (rest : List Input), (∃ w, s.inbox = Input.shown w :: rest) ∧ s.ctl.stack = [] :=
  ⟨rfl, ⟨rfl, rfl⟩, ⟨{ midOperation with inbox := [.pass] }, [], rfl, rfl⟩,
    withInput (.shown ⟨.reportByte1, 0x08⟩), [], ⟨_, rfl⟩, rfl⟩

theorem witness_BusyBlockRefusesEveryStart :
    midOperation.ctl.stack ≠ [] ∧
    (∃ (s : State) (rest : List Input), s.ctl.stack ≠ [] ∧ s.inbox = Input.call 0x1 0 :: rest) ∧
    (∃ (s : State) (rest : List Input), s.ctl.stack ≠ [] ∧ s.inbox = Input.start 0x1 0 :: rest) ∧
    (∃ (s : State) (rest : List Input) (w : RawWord), s.ctl.stack ≠ [] ∧ s.inbox = Input.issue w :: rest) ∧
    (∃ (s : State) (rest : List Input) (w : RawWord), s.ctl.stack ≠ [] ∧ s.inbox = Input.transfer w :: rest) :=
  ⟨by decide, ⟨{ midOperation with inbox := [.call 0x1 0] }, [], by decide, rfl⟩,
    ⟨{ midOperation with inbox := [.start 0x1 0] }, [], by decide, rfl⟩,
    ⟨{ midOperation with inbox := [.issue ⟨.commandByte, 0xFF⟩] }, [], ⟨.commandByte, 0xFF⟩, by decide, rfl⟩,
    ⟨{ midOperation with inbox := [.transfer ⟨.responseByte, 0xFA⟩] }, [], ⟨.responseByte, 0xFA⟩, by decide, rfl⟩⟩

theorem witness_ReservedAndInternalCodesAreRefused :
    ∀ sel ∈ ([0x0, 0x6, 0x7, 0x5, 0xC, 0xD, 0xE, 0xF] : List (BitVec 4)),
      (withInput (.call sel 0)).ctl.stack = [] ∧ (withInput (.call sel 0)).inbox = [.call sel 0] ∧
        (withInput (.start sel 0)).inbox = [.start sel 0] :=
  fun _ _ => ⟨rfl, rfl, rfl⟩

theorem witness_EveryInstructionCompletes :
    Instr.opWait .data true ≠ .reserved0 ∧ Instr.opWait .data true ≠ .reserved6 ∧
      Instr.opWait .data true ≠ .reserved7 := by decide

theorem witness_ReadLevelIsTheLineLevel :
    (readPin .data State.reset).mode = .released ∧
    (readPin .clock midOperation).mode = .driven ∧ (readPin .clock midOperation).out = false ∧
    (∃ s : State, (readPin .data s).mode = .driven ∧ (readPin .data s).out = true ∧
      pulledOf .data (s.device.headD ⟨false, false⟩) = false) :=
  ⟨rfl, rfl, rfl, { midOperation with data := ⟨.driven, true⟩ }, rfl, rfl, rfl⟩

/-- The first sample decides. -/
theorem witness_WaitEndsAtFirstMatchingSample_first :
    0 < Config.maxSamples ∧ levelAtSample .clock 0 (lateDevice 0) = false ∧
      ∀ m < 0, levelAtSample .clock m (lateDevice 0) ≠ false :=
  ⟨Nat.succ_pos _, by decide, by simp⟩

theorem lateDevice_falls (n : Nat) :
    levelAtSample .clock n (lateDevice n) = false ∧ ∀ m < n, levelAtSample .clock m (lateDevice n) ≠ false := by
  refine ⟨?_, fun m hm => ?_⟩
  · rw [levelAtSample_released _ _ _ rfl]
    simp [lateDevice, withDevice, clockAt, pulledOf]
  · rw [levelAtSample_released _ _ _ rfl]
    simp [lateDevice, withDevice, clockAt, pulledOf, List.drop_append_of_le_length, hm.le, List.drop_replicate]
    obtain ⟨k, hk⟩ : ∃ k, n - m = k + 1 := ⟨n - m - 1, by omega⟩
    simp [hk, List.replicate_succ]

/-- The last sample a wait can take decides, whatever the ceiling. -/
theorem witness_WaitEndsAtFirstMatchingSample_last :
    Config.waitCeiling < Config.maxSamples ∧
      levelAtSample .clock Config.waitCeiling (lateDevice Config.waitCeiling) = false ∧
      ∀ m < Config.waitCeiling, levelAtSample .clock m (lateDevice Config.waitCeiling) ≠ false :=
  ⟨Nat.lt_succ_self _, lateDevice_falls _⟩

/-- No sample decides: no device. -/
theorem witness_WaitEndsAtFirstMatchingSample_never :
    ∀ n < Config.maxSamples, levelAtSample .clock n State.reset ≠ false := by
  intro n _
  rw [levelAtSample_released _ _ _ rfl]
  simp [State.reset, pulledOf]

theorem clockNeverPulled_reset : clockNeverPulled State.reset := by
  intro n _; simp [State.reset]

/-- The clock falls one sample too late, whatever the ceiling. -/
theorem clockNeverPulled_late : clockNeverPulled (lateDevice Config.maxSamples) := by
  unfold clockNeverPulled
  generalize Config.maxSamples = m
  intro n hn
  simp [lateDevice, withDevice, List.getD, List.getElem?_append_left, hn]

theorem witness_SendWithoutClockFallAborts :
    clockNeverPulled State.reset ∧ clockNeverPulled (lateDevice Config.maxSamples) :=
  ⟨clockNeverPulled_reset, clockNeverPulled_late⟩

theorem witness_ReceiveWithoutClockAborts :
    clockNeverPulled State.reset ∧ clockNeverPulled (lateDevice Config.maxSamples) :=
  ⟨clockNeverPulled_reset, clockNeverPulled_late⟩

theorem witness_SendToAClockingDeviceSucceeds :
    (∃ (s : State) (rest : List Pulls), s.device = txAnswers 0 false ++ rest ∧ 0 ≤ Config.waitCeiling) ∧
    (∃ (s : State) (rest : List Pulls), s.device = txAnswers Config.waitCeiling false ++ rest ∧
      Config.waitCeiling ≤ Config.waitCeiling) :=
  ⟨⟨withDevice (txAnswers 0 false ++ []), [], withDevice_device _, Nat.zero_le _⟩,
    ⟨withDevice (txAnswers Config.waitCeiling false ++ []), [], withDevice_device _, Nat.le_refl _⟩⟩

theorem witness_SendWithoutAckAborts :
    (∃ (s : State) (rest : List Pulls), s.device = txAnswers 0 true ++ rest ∧ 0 ≤ Config.waitCeiling) ∧
    (∃ (s : State) (rest : List Pulls), s.device = txAnswers Config.waitCeiling true ++ rest ∧
      Config.waitCeiling ≤ Config.waitCeiling) :=
  ⟨⟨withDevice (txAnswers 0 true ++ []), [], withDevice_device _, Nat.zero_le _⟩,
    ⟨withDevice (txAnswers Config.waitCeiling true ++ []), [], withDevice_device _, Nat.le_refl _⟩⟩

theorem witness_ReceiveAssemblesTheByte :
    (∃ (s : State) (rest : List Pulls), s.device = byteAnswers 0 0x00 ++ rest ∧ 0 ≤ Config.waitCeiling) ∧
    (∃ (s : State) (rest : List Pulls), s.device = byteAnswers Config.waitCeiling 0xFF ++ rest ∧
      Config.waitCeiling ≤ Config.waitCeiling) :=
  ⟨⟨withDevice (byteAnswers 0 0x00 ++ []), [], withDevice_device _, Nat.zero_le _⟩,
    ⟨withDevice (byteAnswers Config.waitCeiling 0xFF ++ []), [], withDevice_device _, Nat.le_refl _⟩⟩

/-- One frame for each of the four cases: a start slot of 1, a wrong parity, a stop slot of 0, a right one. -/
theorem witness_ReceiveRejectsIllegalFramesAtTheirSlot :
    ∀ f ∈ ([(true, true, true), (false, false, true), (false, true, false), (false, true, true)] :
        List (Level × Level × Level)),
      (withDevice (rxAnswers 0 (frameSlots f.1 0xFA f.2.1 f.2.2) ++ [])).device =
        rxAnswers 0 (frameSlots f.1 0xFA f.2.1 f.2.2) ++ [] ∧ 0 ≤ Config.waitCeiling ∧
      oddParity 0xFA = true :=
  fun _ _ => ⟨withDevice_device _, Nat.zero_le _, by decide⟩

theorem ran_next {o : Host.Outcome State Fault Refusal} {p : State → Bool} (h : ran o p = true) :
    ∃ t, o = .next t ∧ p t = true := by
  cases o with
  | next t => exact ⟨t, rfl, h⟩
  | fault r => cases h
  | refused r => cases h

/-- A send that fails; one that works before a receive that fails; one that works before a receive that works. -/
theorem witness_WriteAndReadAckIsSendThenReceive :
    (∃ s t : State, exec (.opSend 0xEB) s = .next t ∧ t.result < 0) ∧
    (∃ s t u : State, exec (.opSend 0xEB) s = .next t ∧ 0 ≤ t.result ∧ exec .opRecv t = .next u ∧
      u.result < 0) ∧
    (∃ s t u : State, exec (.opSend 0xEB) s = .next t ∧ 0 ≤ t.result ∧ exec .opRecv t = .next u ∧
      0 ≤ u.result) := by
  have h1 : ran (exec (.opSend 0xEB) State.reset) (fun t => decide (t.result < 0)) = true := by decide +kernel
  have h2 : ran (exec (.opSend 0xEB) (withDevice (txAnswers 0 false)))
      (fun t => decide (0 ≤ t.result) && ran (exec .opRecv t) fun u => decide (u.result < 0)) = true := by
    decide +kernel
  have h3 : ran (exec (.opSend 0xEB) (withDevice (exchAnswers 0 0x00 [])))
      (fun t => decide (0 ≤ t.result) && ran (exec .opRecv t) fun u => decide (0 ≤ u.result)) = true := by
    decide +kernel
  obtain ⟨t1, e1, p1⟩ := ran_next h1
  obtain ⟨t2, e2, p2⟩ := ran_next h2
  obtain ⟨t3, e3, p3⟩ := ran_next h3
  simp only [Bool.and_eq_true] at p2 p3
  obtain ⟨u2, f2, q2⟩ := ran_next p2.2
  obtain ⟨u3, f3, q3⟩ := ran_next p3.2
  exact ⟨⟨_, t1, e1, of_decide_eq_true p1⟩, ⟨_, t2, u2, e2, of_decide_eq_true p2.1, f2, of_decide_eq_true q2⟩,
    ⟨_, t3, u3, e3, of_decide_eq_true p3.1, f3, of_decide_eq_true q3⟩⟩

theorem witness_WriteAndReadAckReturnsTheReply :
    (∃ (s : State) (rest : List Pulls), s.device = exchAnswers 0 0xFE [] ++ rest ∧ 0 ≤ Config.waitCeiling) ∧
    (∃ (s : State) (rest : List Pulls), s.device = exchAnswers Config.waitCeiling 0xFA [] ++ rest ∧
      Config.waitCeiling ≤ Config.waitCeiling) :=
  ⟨⟨withDevice (exchAnswers 0 0xFE [] ++ []), [], withDevice_device _, Nat.zero_le _⟩,
    ⟨withDevice (exchAnswers Config.waitCeiling 0xFA [] ++ []), [], withDevice_device _, Nat.le_refl _⟩⟩

/-- Each of the five commands, acknowledged and not. -/
theorem witness_SentCommandsReadTheirPayload :
    ∀ n ∈ ([2, 0, 3] : List Nat), ∀ a ∈ ([0xFA, 0xFE] : List Byte),
      ∃ (s : State) (payload : List Byte) (rest : List Pulls),
        payload.length = n ∧ s.device = exchAnswers 0 a payload ++ rest ∧ 0 ≤ Config.waitCeiling :=
  fun n _ a _ => ⟨withDevice (exchAnswers 0 a (List.replicate n 0xAA) ++ []), List.replicate n 0xAA, [],
    List.length_replicate, withDevice_device _, Nat.zero_le _⟩

theorem witness_InertCommandsAreOpaqueBytes :
    ∀ a ∈ ([0x00, 0xFA, 0xFF] : List Byte), ∃ (s : State) (rest : List Pulls),
      s.device = exchAnswers 0 a [] ++ rest ∧ 0 ≤ Config.waitCeiling :=
  fun a _ => ⟨withDevice (exchAnswers 0 a [] ++ []), [], withDevice_device _, Nat.zero_le _⟩

theorem witness_UpdateIgnoresTheAcknowledgment :
    (∃ s : State, s.inbox = [] ∧ s.ctl = ⟨[.u0, .b4], none⟩) ∧
    ∀ v ∈ ([250, 254, -100, -101] : List Int), ∃ s : State, s.inbox = [] ∧ s.ctl = ⟨[.u0], some v⟩ :=
  ⟨⟨{ State.reset with ctl := ⟨[.u0, .b4], none⟩ }, rfl, rfl⟩,
    fun v _ => ⟨{ State.reset with ctl := ⟨[.u0], some v⟩ }, rfl, rfl⟩⟩

theorem witness_UpdateDecodesTheReport :
    ∃ (s : State) (rest : List Pulls), s.device = exchAnswers 0 0xFE [0x38, 0x00, 0xFF] ++ rest ∧
      0 ≤ Config.waitCeiling :=
  ⟨withDevice (exchAnswers 0 0xFE [0x38, 0x00, 0xFF] ++ []), [], withDevice_device _, Nat.zero_le _⟩

theorem witness_UpdateAlwaysDecodesItsRegisters_call :
    ∃ (s : State) (rest : List Input), s.ctl = .idle ∧ s.inbox = .call 0x2 0xFF :: rest ∧ opResult s = some 0xFFFB :=
  ⟨{ withInput (.call 0x2 0xFF) with result := -5, valued := true }, [], rfl, rfl, by decide⟩

/-- Each of the three reads, with the least and the greatest byte and with two codes, inside `begin` and on its own. -/
theorem witness_UpdateAlwaysDecodesItsRegisters_points :
    (∃ s : State, s.inbox = [] ∧ s.ctl = ⟨[.u1, .b4], none⟩) ∧ (∃ s : State, s.inbox = [] ∧ s.ctl = ⟨[.u2], none⟩) ∧
    (∃ s : State, s.inbox = [] ∧ s.ctl = ⟨[.u2, .b4], none⟩) ∧
    ∀ k ∈ ([0, 1, 2] : List Nat), ∀ b ∈ ([0x00, 0xFF] : List Byte), ∀ code ∈ ([-4, -40] : List Int),
      (∃ s : State, s.inbox = [] ∧ s.ctl = ⟨[.u1], some (b.toNat : Int)⟩ ∧ s.k = k ∧ s.k ≤ 2) ∧
      ∃ s : State, s.inbox = [] ∧ s.ctl = ⟨[.u1, .b4], some code⟩ ∧ s.k = k ∧ s.k ≤ 2 ∧ code < 0 :=
  ⟨⟨{ State.reset with ctl := ⟨[.u1, .b4], none⟩ }, rfl, rfl⟩, ⟨{ State.reset with ctl := ⟨[.u2], none⟩ }, rfl, rfl⟩,
    ⟨{ State.reset with ctl := ⟨[.u2, .b4], none⟩ }, rfl, rfl⟩, fun k hk b _ code hc =>
      ⟨⟨{ State.reset with ctl := ⟨[.u1], some (b.toNat : Int)⟩, k := k }, rfl, rfl, rfl,
          show k ≤ 2 by fin_cases hk <;> decide⟩,
        { State.reset with ctl := ⟨[.u1, .b4], some code⟩, k := k }, rfl, rfl, rfl,
          show k ≤ 2 by fin_cases hk <;> decide,
          by fin_cases hc <;> decide⟩⟩

theorem witness_UpdateWithoutDeviceMakesFourAttempts : State.reset.device = [] := rfl

theorem witness_OnlyReportDecodingWritesTheEvent :
    Instr.opRecv ≠ .reserved0 ∧ Instr.opRecv ≠ .reserved6 ∧ Instr.opRecv ≠ .reserved7 ∧ Instr.opRecv ≠ .opBegin ∧
      Instr.opRecv ≠ .opUpdate ∧ (∀ b, Instr.opRecv ≠ .reportFlags b) ∧ (∀ b, Instr.opRecv ≠ .reportX b) ∧
      ∀ b, Instr.opRecv ≠ .reportY b := by
  refine ⟨?_, ?_, ?_, ?_, ?_, ?_, ?_, ?_⟩ <;> simp

theorem witness_OnlyTheDecodePointWritesTheEvent :
    midOperation.inbox = [] ∧ midOperation.ctl.stack.head? ≠ some .u2 ∧ midOperation.ctl.stack.head? ≠ some .u1 := by
  decide

theorem witness_BeginRunsTheWholeList :
    ∃ (s : State) (pay : Nat → Nat → Byte) (rest : List Pulls),
      s.device = initAnswers 0 pay [0, 1, 2, 3, 4, 5, 6] ++ exchAnswers 0 0xFA [0x29, 0x05, 0xFB] ++ rest ∧
        0 ≤ Config.waitCeiling :=
  ⟨withDevice (initAnswers 0 (fun _ _ => 0xAA) [0, 1, 2, 3, 4, 5, 6] ++ exchAnswers 0 0xFA [0x29, 0x05, 0xFB] ++ []),
    fun _ _ => 0xAA, [], withDevice_device _, Nat.zero_le _⟩

/-- Refused at the first, the third and the last command. -/
theorem witness_BeginStopsAtTheFirstRefusal :
    ∀ n ∈ ([0, 2, 6] : List Nat), ∃ (s : State) (pay : Nat → Nat → Byte) (a : Byte) (rest : List Pulls),
      n ≤ 6 ∧ a ≠ 0xFA ∧ s.device = initAnswers 0 pay (List.range n) ++ exchAnswers 0 a [] ++ rest ∧
        0 ≤ Config.waitCeiling :=
  fun n hn => ⟨withDevice (initAnswers 0 (fun _ _ => 0) (List.range n) ++ exchAnswers 0 0xFE [] ++ []), fun _ _ => 0,
    0xFE, [], by fin_cases hn <;> decide, by decide, withDevice_device _, Nat.zero_le _⟩

/-- At the first and at the last command: a device that is gone, and one whose answer's frame begins with a start slot
of 1. -/
theorem witness_BeginStopsAtTheFirstRefusal_sentinels :
    (∃ s u : State, s.device = initAnswers 0 (fun _ _ => 0) (List.range 0) ++ [] ∧ 0 ≤ Config.waitCeiling ∧
      exec (.opWra (initAt 0)) { s with device := [], trace := [] } = .next u ∧ u.result ≠ 250) ∧
    ∃ s u : State, s.device = initAnswers 0 (fun _ _ => 0) (List.range 6) ++ (txAnswers 0 false ++ rxAnswers 0 [true]) ∧
      exec (.opWra (initAt 6)) { s with device := txAnswers 0 false ++ rxAnswers 0 [true], trace := [] } = .next u ∧
        u.result ≠ 250 := by
  have h1 : ran (exec (.opWra (initAt 0)) State.reset) (fun u => decide (u.result ≠ 250)) = true := by decide +kernel
  have h2 : ran (exec (.opWra (initAt 6)) (withDevice (txAnswers 0 false ++ rxAnswers 0 [true])))
      (fun u => decide (u.result ≠ 250)) = true := by decide +kernel
  obtain ⟨u1, e1, p1⟩ := ran_next h1
  obtain ⟨u2, e2, p2⟩ := ran_next h2
  exact ⟨⟨State.reset, u1, rfl, Nat.zero_le _, e1, of_decide_eq_true p1⟩,
    withDevice (initAnswers 0 (fun _ _ => 0) (List.range 6) ++ (txAnswers 0 false ++ rxAnswers 0 [true])), u2,
    withDevice_device _, e2, of_decide_eq_true p2⟩

/-- The control points of `begin`, with the acknowledgment, its neighbours, the sentinels and a failed payload read. -/
theorem witness_BeginCollapsesFailuresToFalse :
    (∀ p ∈ ([.b0, .b1, .b2, .b3, .b4] : List Point), ∀ n ∈ ([0, 5, 6] : List Nat), ∀ k ∈ ([0, 2, 3] : List Nat),
      ∃ s : State, s.inbox = [] ∧ s.ctl = ⟨[p], none⟩ ∧ s.seq = n ∧ s.k = k) ∧
    ∀ p ∈ ([.b1, .b2, .b4] : List Point), ∀ v ∈ ([0, 249, 250, 251, -100, -101, -40] : List Int),
      ∃ s : State, s.inbox = [] ∧ s.ctl = ⟨[p], some v⟩ :=
  ⟨fun p _ n _ k _ => ⟨{ State.reset with ctl := ⟨[p], none⟩, seq := n, k := k }, rfl, rfl, rfl, rfl⟩,
    fun p _ v _ => ⟨{ State.reset with ctl := ⟨[p], some v⟩ }, rfl, rfl⟩⟩

theorem witness_BeginWithoutDeviceMakesOneAttempt : State.reset.device = [] := rfl

/-- Inside `update` and on its own, at the first and the last index. -/
theorem witness_FailedWaitAbortsAtOnce :
    ∀ p ∈ ([.s8, .s10, .s11, .s13, .v3, .v4] : List Point), ∀ rest ∈ ([[], [.d0, .u1]] : List (List Point)),
      ∀ i ∈ ([0, 9, 10] : List Nat), ∃ s : State, s.inbox = [] ∧ s.i = i ∧ s.ctl = ⟨p :: rest, some 0⟩ :=
  fun p _ rest _ i _ => ⟨{ State.reset with i := i, ctl := ⟨p :: rest, some 0⟩ }, rfl, rfl, rfl⟩

theorem witness_FailedSampleAbortsAtOnce_ack :
    ∃ s : State, s.inbox = [] ∧ s.ctl = ⟨[.s12], none⟩ ∧ s.data.mode = .released ∧
      true = !(s.device.headD ⟨false, false⟩).data :=
  ⟨{ State.reset with ctl := ⟨[.s12], none⟩ }, rfl, rfl, rfl, rfl⟩

theorem witness_FailedSampleAbortsAtOnce_slots :
    (∃ s : State, s.inbox = [] ∧ s.ctl = ⟨[.v5, .d0], none⟩ ∧ s.data.mode = .released ∧ s.i = 0 ∧
      true = !(s.device.headD ⟨false, false⟩).data) ∧
    (∃ s : State, s.inbox = [] ∧ s.ctl = ⟨[.v5], none⟩ ∧ s.data.mode = .released ∧ s.i = 9 ∧
      parityAccepts true s.ones = false ∧ true = !(s.device.headD ⟨false, false⟩).data) ∧
    (∃ s : State, s.inbox = [] ∧ s.ctl = ⟨[.v5], none⟩ ∧ s.data.mode = .released ∧ s.i = 10 ∧
      false = !(s.device.headD ⟨false, false⟩).data) :=
  ⟨⟨{ State.reset with ctl := ⟨[.v5, .d0], none⟩ }, rfl, rfl, rfl, rfl, rfl⟩,
    ⟨{ State.reset with ctl := ⟨[.v5], none⟩, i := 9, ones := 7 }, rfl, rfl, rfl, rfl, by decide, rfl⟩,
    ⟨{ State.reset with ctl := ⟨[.v5], none⟩, i := 10, device := [dataAt false] }, rfl, rfl, rfl, rfl, rfl⟩⟩

theorem witness_DecodeReadsBackEveryEncoding :
    Instr.wellFormed (.opDelay 65535) = true ∧ Instr.wellFormed (.frameD2H true 0xFF false false) = true := by decide

theorem witness_DecodedWordsAreEncodings :
    decode ⟨.wireFrame12, 0x402⟩ = .ok (.frameH2D 0x01 false) ∧ Instr.frameH2D 0x01 false ∉ bareRequests ∧
    decode ⟨.opSel, 0xFFFF05⟩ = .ok (.opDelay 65535) ∧ Instr.opDelay 65535 ∉ bareRequests ∧
    decode ⟨.opSel, 0x00030F⟩ = .ok (.opWait .data true) ∧ Instr.opWait .data true ∉ bareRequests ∧
    decode ⟨.opSel, 0x00FF01⟩ = .ok .opBegin ∧ Instr.opBegin ∈ bareRequests := by decide

/-- The premises of the invariants that every step keeps, at a state inside `begin`, with a next state. -/
def insideBegin : State :=
  { State.reset with
    seq := 1, k := 2, txb := 0xE9, i := 3, count := 5
    ctl := ⟨[.w1 .clock false, .v3, .d0, .b2], none⟩, device := [clockAt false] }

theorem witness_EveryStepKeepsTheNestLegal :
    NestingLegal insideBegin ∧ ∃ t : State, step insideBegin = .next t :=
  ⟨⟨⟨rfl, rfl, rfl, trivial⟩, by simp [insideBegin]⟩, _, rfl⟩

theorem witness_LegalNestsAreAtMostFiveDeep :
    ∃ s : State, NestingLegal s ∧ s.ctl.stack.length = 5 :=
  ⟨{ State.reset with ctl := ⟨[.w2 .clock true, .s10, .a0 0xEB, .u0, .b4], none⟩ },
    ⟨⟨rfl, rfl, rfl, rfl, trivial⟩, by simp⟩, rfl⟩

theorem witness_EveryStepKeepsLinesRested :
    LinesRested insideBegin ∧ ∃ t : State, step insideBegin = .next t :=
  ⟨⟨fun _ => rfl, fun _ => rfl⟩, _, rfl⟩

theorem witness_EveryStepKeepsTheLinesFit :
    LinesFit insideBegin ∧ ∃ t : State, step insideBegin = .next t :=
  ⟨⟨witness_EveryStepKeepsTheNestLegal.1, by simp [insideBegin, pointLines, State.reset, readPin]⟩, _, rfl⟩

theorem witness_NoDrivenLineIsSampled :
    LinesFit insideBegin ∧ samplesNext insideBegin = some .clock :=
  ⟨witness_EveryStepKeepsTheLinesFit.1, rfl⟩

theorem rangesFit_insideBegin : RangesFit insideBegin where
  nesting := witness_EveryStepKeepsTheNestLegal.1
  i := by decide
  ones := by decide
  count := by decide +kernel
  seq := by decide
  k := by decide
  result := by decide
  moveX := by decide
  moveY := by decide
  moveZ := by decide
  ret := by simp [insideBegin]
  points := by
    have : insideBegin.count ≤ Config.waitCeiling := by decide +kernel
    have : State.reset.ones ≤ 2 := by decide
    simp_all [insideBegin, pointRanges]
  payload := by simp [insideBegin, payloadRanges]

theorem witness_EveryStepKeepsTheRanges :
    RangesFit insideBegin ∧ ∃ t : State, step insideBegin = .next t := ⟨rangesFit_insideBegin, _, rfl⟩

theorem witness_EveryStepKeepsTheSessionList :
    SessionSendsOnlyItsList insideBegin ∧ inSession insideBegin ∧ ∃ t : State, step insideBegin = .next t :=
  ⟨⟨by decide, fun _ => by simp [insideBegin, pointSends]⟩, ⟨.b2, rfl, .inl rfl⟩, _, rfl⟩

theorem witness_ControlPointsOfTransfersMatchTheirPseudocode :
    ∀ sel ∈ ([0x8, 0x9, 0xB] : List (BitVec 4)), sel ∈ ([0x8, 0x9, 0xB] : List (BitVec 4)) ∧ State.reset.ctl = .idle :=
  fun _ h => ⟨h, rfl⟩

theorem witness_ControlPointsOfExchangeMatchItsPseudocode :
    (0xA : BitVec 4) ∈ ([0xA] : List (BitVec 4)) ∧ State.reset.ctl = .idle := ⟨by decide, rfl⟩

theorem witness_ControlPointsOfSessionMatchTheirPseudocode :
    ∀ sel ∈ ([0x1, 0x2, 0x3, 0x4] : List (BitVec 4)),
      sel ∈ ([0x1, 0x2, 0x3, 0x4] : List (BitVec 4)) ∧ State.reset.ctl = .idle :=
  fun _ h => ⟨h, rfl⟩

end Sys2Proof.Tests
end

section
/-! PROOFS. What the byte operations keep while they run: the session, the lines and the registers of the other
direction (10_state.md R24 to R31, R38). -/

namespace Sys2Proof.Machine

/-! ## Parts of an operation one after the other -/

/-- What holds after the first part and is kept by the next holds after both. -/
theorem Progress.andThen_holds {P : State → Prop} {p : Progress} {g : State → Progress} (hp : P p.state)
    (hg : ∀ t, P t → P (g t).state) : P (p.andThen g).state := by
  cases p with
  | going t => exact hg t hp
  | aborted c t => exact hp

/-- A wait of a byte operation stands where the bounded wait ends, whether it goes on or aborts. -/
@[simp] theorem waitOr_state (l : Line) (v : Level) (code : Int) (s : State) :
    (waitOr l v code s).state = (waitForLevel l v Config.waitCeiling s).2 := by
  rw [waitOr_eq]; split <;> rfl

theorem waitForLevel_clock (l : Line) (v : Level) (budget : Nat) (s : State) :
    (waitForLevel l v budget s).2.clock = s.clock := by rw [waitForLevel_frame]

theorem waitForLevel_data (l : Line) (v : Level) (budget : Nat) (s : State) :
    (waitForLevel l v budget s).2.data = s.data := by rw [waitForLevel_frame]

theorem waitForLevel_i (l : Line) (v : Level) (budget : Nat) (s : State) :
    (waitForLevel l v budget s).2.i = s.i := by rw [waitForLevel_frame]

/-! ## Two frames -/

/-- What a send keeps after its request-to-send: the session, the byte and the receive's registers. -/
structure SendKeeps (s t : State) : Prop extends SameSession s t where
  txb : t.txb = s.txb
  acc : t.acc = s.acc
  ones : t.ones = s.ones

/-- What it keeps until it takes the clock back: the released clock too. -/
structure SendFrame (s t : State) : Prop extends SendKeeps s t where
  clock : t.clock = s.clock

/-- What a receive in progress keeps: the session, the send's registers and both released lines. -/
structure ReceiveFrame (s t : State) : Prop extends SameSession s t where
  txb : t.txb = s.txb
  par : t.par = s.par
  clock : t.clock = s.clock
  data : t.data = s.data

theorem SendKeeps.trans {s t u : State} (h : SendKeeps s t) (g : SendKeeps t u) : SendKeeps s u :=
  ⟨h.toSameSession.trans g.toSameSession, g.txb.trans h.txb, g.acc.trans h.acc, g.ones.trans h.ones⟩

theorem SendFrame.trans {s t u : State} (h : SendFrame s t) (g : SendFrame t u) : SendFrame s u :=
  ⟨h.toSendKeeps.trans g.toSendKeeps, g.clock.trans h.clock⟩

theorem ReceiveFrame.refl (s : State) : ReceiveFrame s s := ⟨.refl s, rfl, rfl, rfl, rfl⟩

theorem ReceiveFrame.trans {s t u : State} (h : ReceiveFrame s t) (g : ReceiveFrame t u) : ReceiveFrame s u :=
  ⟨h.toSameSession.trans g.toSameSession, g.txb.trans h.txb, g.par.trans h.par, g.clock.trans h.clock,
    g.data.trans h.data⟩

theorem waitForLevel_sendFrame (v : Level) (budget : Nat) {s : State} (h : s.clock.mode = .released) :
    SendFrame s (waitForLevel .clock v budget s).2 :=
  ⟨⟨waitForLevel_same .clock v budget s h, by rw [waitForLevel_frame], by rw [waitForLevel_frame],
    by rw [waitForLevel_frame]⟩, waitForLevel_clock _ _ _ _⟩

theorem waitForLevel_receiveFrame (v : Level) (budget : Nat) {s : State} (h : s.clock.mode = .released) :
    ReceiveFrame s (waitForLevel .clock v budget s).2 :=
  ⟨waitForLevel_same .clock v budget s h, by rw [waitForLevel_frame], by rw [waitForLevel_frame],
    waitForLevel_clock _ _ _ _, waitForLevel_data _ _ _ _⟩

/-! ## The send -/

theorem putSlot_trace (s : State) : ∃ es, (putSlot s).trace = s.trace ++ es := by
  unfold putSlot
  split
  · exact ⟨_, driveLine_trace _ _ _⟩
  · split
    · exact ⟨_, driveLine_trace _ _ _⟩
    · exact ⟨[.release .data, .delay Config.tStopSettle], by simp⟩

theorem putSlot_frame (n : Nat) (s : State) : SendFrame s (putSlot { s with i := n }) where
  rep := putSlot_rep _
  ev := putSlot_ev _
  seq := putSlot_seq _
  k := putSlot_k _
  ctl := putSlot_ctl _
  done := putSlot_done _
  inbox := putSlot_inbox _
  draws := putSlot_draws _
  device := ⟨0, putSlot_device _⟩
  trace := putSlot_trace _
  txb := putSlot_txb _
  acc := putSlot_acc _
  ones := putSlot_ones _
  clock := putSlot_clock _

theorem sendSlot_frame (n : Nat) {s : State} (h : s.clock.mode = .released) : SendFrame s (sendSlot n s).state := by
  have hput := putSlot_frame n s
  have hclk : (putSlot { s with i := n }).clock.mode = .released := by rw [hput.clock]; exact h
  have hhigh := hput.trans (waitForLevel_sendFrame true Config.waitCeiling hclk)
  refine Progress.andThen_holds (P := SendFrame s) (by rw [waitOr_state]; exact hhigh) fun t ht => ?_
  rw [waitOr_state]
  exact ht.trans (waitForLevel_sendFrame false _ (by rw [ht.clock]; exact h))

theorem sendSlots_frame (ns : List Nat) {s u : State} (h : s.clock.mode = .released) (hu : SendFrame s u) :
    SendFrame s (sendSlots ns u).state := by
  induction ns generalizing u with
  | nil => exact hu
  | cons n rest ih =>
    have hslot := hu.trans (sendSlot_frame n (by rw [hu.clock]; exact h))
    exact Progress.andThen_holds hslot fun t ht => ih ht

theorem sendSlots_append (ms ns : List Nat) (s : State) :
    sendSlots (ms ++ ns) s = (sendSlots ms s).andThen (sendSlots ns) := by
  induction ms generalizing s with
  | nil => rfl
  | cons m rest ih =>
    simp only [List.cons_append, sendSlots, Progress.andThen_assoc]
    exact congrArg _ (funext ih)

/-- The stop slot leaves `DATA` released. -/
theorem sendSlot_stop_data (s : State) : (sendSlot 9 s).state.data = releasedPin := by
  refine Progress.andThen_holds (P := fun t => t.data = releasedPin) ?_ fun t ht => ?_
  · rw [waitOr_state, waitForLevel_data]; rfl
  · rw [waitOr_state, waitForLevel_data]; exact ht

/-- Where the bit loop goes on to the ack check, `DATA` has been released by the stop slot. -/
theorem sendSlots_going_data {s t : State} (h : sendSlots txSlots s = .going t) : t.data = releasedPin := by
  have hsplit : txSlots = List.range 9 ++ [9] := rfl
  rw [hsplit, sendSlots_append] at h
  cases hp : sendSlots (List.range 9) s with
  | aborted c u => rw [hp] at h; cases h
  | going u =>
    have hlast : (sendSlot 9 u).andThen (sendSlots []) = .going t := by rw [hp] at h; exact h
    cases hq : sendSlot 9 u with
    | aborted c w => rw [hq] at hlast; cases hlast
    | going w =>
      rw [hq] at hlast
      cases hlast
      have := sendSlot_stop_data u
      rwa [hq] at this

/-- The end of a send keeps what a send keeps, `DATA` being released when the ack is sampled. -/
theorem ackCheck_keeps {s : State} (hc : s.clock.mode = .released) (hd : s.data.mode = .released) :
    SendKeeps s (ackCheck s).state := by
  have hsample : SendFrame s (sampleLine .data s).2 := ⟨⟨sampleLine_same .data s hd, rfl, rfl, rfl⟩, rfl⟩
  unfold ackCheck
  dsimp only
  split
  · exact hsample.toSendKeeps
  · have hwait := hsample.trans (waitForLevel_sendFrame true Config.waitCeiling (s := (sampleLine .data s).2) hc)
    exact Progress.andThen_holds (P := SendKeeps s) (by rw [waitOr_state]; exact hwait.toSendKeeps) fun t ht =>
      ht.trans ⟨driveLine_same _ _ _, rfl, rfl, rfl⟩

/-- The bit loop and the end of a send, `CLOCK` being released before them. -/
theorem sendBits_keeps {s u : State} (h : s.clock.mode = .released) (hu : SendFrame s u) :
    SendKeeps s ((sendSlots txSlots u).andThen ackCheck).state := by
  have hslots := sendSlots_frame txSlots h hu
  cases hq : sendSlots txSlots u with
  | aborted c t => rw [hq] at hslots; exact hslots.toSendKeeps
  | going t =>
    rw [hq] at hslots
    have ht : SendFrame s t := hslots
    exact ht.toSendKeeps.trans (ackCheck_keeps (by rw [ht.clock]; exact h) (by rw [sendSlots_going_data hq]; rfl))

theorem SendFrame.set_par {s t : State} (h : SendFrame s t) (v : Level) : SendFrame s { t with par := v } :=
  ⟨⟨⟨h.rep, h.ev, h.seq, h.k, h.ctl, h.done, h.inbox, h.draws, h.device, h.trace⟩, h.txb, h.acc, h.ones⟩, h.clock⟩

/-- From its request-to-send on, a send keeps `SendKeeps`. -/
theorem sendByte_keeps (b : Byte) (s : State) : SendKeeps (requestToSend b s) (sendByte b s).2 := by
  have hfirst := waitForLevel_sendFrame false Config.waitCeiling (s := requestToSend b s) rfl
  rw [← waitOr_state _ _ Config.txErrClkFall] at hfirst
  unfold sendByte
  rw [Progress.toResult_state]
  cases hp : waitOr .clock false Config.txErrClkFall (requestToSend b s) with
  | aborted c t => rw [hp] at hfirst; exact hfirst.toSendKeeps
  | going t =>
    rw [hp] at hfirst
    exact sendBits_keeps rfl (SendFrame.set_par hfirst true)

/-- A send keeps the session and the receive's registers, and sets `txb`, for every device. -/
theorem sendByte_same (b : Byte) (s : State) :
    SameSession s (sendByte b s).2 ∧ (sendByte b s).2.txb = b ∧ (sendByte b s).2.acc = s.acc ∧
      (sendByte b s).2.ones = s.ones := by
  have h := sendByte_keeps b s
  exact ⟨(requestToSend_same b s).trans h.toSameSession, h.txb, h.acc, h.ones⟩

/-! ## The receive -/

theorem takeSlot_receiveFrame (d : Level) (s : State) : ReceiveFrame s (takeSlot d s).state := by
  rcases takeSlot_frame d s with ⟨a, o, h⟩ | ⟨c, h⟩ <;> rw [h]
  · exact ⟨⟨rfl, rfl, rfl, rfl, rfl, rfl, rfl, rfl, ⟨0, rfl⟩, ⟨[], by simp [Progress.state]⟩⟩, rfl, rfl, rfl, rfl⟩
  · exact .refl s

theorem recvSlot_frame (n : Nat) {s : State} (hc : s.clock.mode = .released) (hd : s.data.mode = .released) :
    ReceiveFrame s (recvSlot n s).state := by
  have hlow : ReceiveFrame s (waitForLevel .clock false Config.waitCeiling { s with i := n }).2 := by
    have h := waitForLevel_receiveFrame false Config.waitCeiling (s := { s with i := n }) hc
    exact ⟨⟨h.rep, h.ev, h.seq, h.k, h.ctl, h.done, h.inbox, h.draws, h.device, h.trace⟩, h.txb, h.par, h.clock, h.data⟩
  refine Progress.andThen_holds (P := ReceiveFrame s) (by rw [waitOr_state]; exact hlow) fun t ht => ?_
  have hhigh := ht.trans (waitForLevel_receiveFrame true Config.waitCeiling (by rw [ht.clock]; exact hc))
  refine Progress.andThen_holds (P := ReceiveFrame s) (by rw [waitOr_state]; exact hhigh) fun u hu => ?_
  have hsample : ReceiveFrame u (sampleLine .data u).2 :=
    ⟨sampleLine_same .data u (by rw [readPin_data, hu.data]; exact hd), rfl, rfl, rfl, rfl⟩
  exact (hu.trans hsample).trans (takeSlot_receiveFrame _ _)

theorem recvSlots_frame (ns : List Nat) {s u : State} (hc : s.clock.mode = .released) (hd : s.data.mode = .released)
    (hu : ReceiveFrame s u) : ReceiveFrame s (recvSlots ns u).state := by
  induction ns generalizing u with
  | nil => exact hu
  | cons n rest ih =>
    have hslot := hu.trans (recvSlot_frame n (by rw [hu.clock]; exact hc) (by rw [hu.data]; exact hd))
    exact Progress.andThen_holds hslot fun t ht => ih ht

/-- A receive keeps the session and the send's registers, for every device. -/
theorem receiveByte_same (s : State) :
    SameSession s (receiveByte s).2 ∧ (receiveByte s).2.txb = s.txb ∧ (receiveByte s).2.par = s.par := by
  have hslots := recvSlots_frame rxSlots (s := receiveStart s) rfl rfl (.refl _)
  unfold receiveByte
  rw [Progress.toResult_state]
  refine Progress.andThen_holds (P := fun t => SameSession s t ∧ t.txb = s.txb ∧ t.par = s.par) ?_
    fun t ⟨hs, htxb, hpar⟩ => ⟨hs.trans (driveLine_same _ _ _), htxb, hpar⟩
  exact ⟨(receiveStart_same s).trans hslots.toSameSession, hslots.txb, hslots.par⟩

/-! ## writeAndReadAck -/

/-- `writeAndReadAck` stands where its send ends when that fails, else where its receive ends. -/
theorem writeAndReadAck_state (b : Byte) (s : State) :
    (writeAndReadAck b s).2 = if (sendByte b s).1 < 0 then (sendByte b s).2 else (receiveByte (sendByte b s).2).2 := by
  unfold writeAndReadAck
  dsimp only
  split
  · rfl
  · split <;> rfl

theorem writeAndReadAck_same (b : Byte) (s : State) :
    SameSession s (writeAndReadAck b s).2 ∧ (writeAndReadAck b s).2.txb = b := by
  obtain ⟨hsend, htxb, -, -⟩ := sendByte_same b s
  obtain ⟨hrecv, gtxb, -⟩ := receiveByte_same (sendByte b s).2
  rw [writeAndReadAck_state]
  split
  · exact ⟨hsend, htxb⟩
  · exact ⟨hsend.trans hrecv, gtxb.trans htxb⟩

/-! ## The obligation -/

/-- Settles O17: a send keeps `SendFrame` from its request-to-send on, a receive `ReceiveFrame`; both lines are released
wherever one is sampled, so no free value is drawn. -/
theorem byteOperationsKeepTheSession : Obligations.ByteOperationsKeepTheSession := by
  intro s b
  have hfin : ∀ {t : State} (v : Int), SameSession s t → SameSession s (finish v t) :=
    fun v h => h.trans (finish_same v _)
  obtain ⟨hsend, hsendTxb, hacc, hones⟩ := sendByte_same b s
  obtain ⟨hrecv, hrecvTxb, hpar⟩ := receiveByte_same s
  obtain ⟨hwra, hwraTxb⟩ := writeAndReadAck_same b s
  exact ⟨⟨_, rfl, hfin _ hsend, hsendTxb, hacc, hones⟩, ⟨_, rfl, hfin _ hrecv, hrecvTxb, hpar⟩,
    ⟨_, rfl, hfin _ hrecv, hrecvTxb, hpar⟩, ⟨_, rfl, hfin _ hwra, hwraTxb⟩⟩

end Sys2Proof.Machine
end

section
/-! PROOFS. What a step does with what arrives (92_eei_decisions.md D1, D18), and the state after reset
(10_state.md R44). -/

namespace Sys2Proof.Machine

/-! ## A step with nothing arriving -/

theorem tick_idle {s : State} (h : s.ctl.stack = []) : tick s = s := by unfold tick; rw [h]

theorem step_no_input {s : State} (h : s.inbox = []) : step s = .next (tick s) := by
  unfold step fetch; rw [h]

/-- Nothing arriving, or an item that the device shows unasked, is taken from the inbox and leaves the block to
its tick. -/
theorem step_unasked {s : State} {rest : List Input} (h : s.inbox = .pass :: rest ∨ ∃ w, s.inbox = .shown w :: rest) :
    step s = .next (tick (arrived rest s)) := by
  unfold step fetch
  rcases h with h | ⟨w, h⟩ <;> rw [h]

/-! ## Requests to an idle block -/

theorem busy_idle {s : State} (h : s.ctl.stack = []) : busy s = false := by simp [busy, h]

/-- What a fetched thing makes of a step. -/
theorem step_of_fetch_run {s t : State} {i : Instr} (h : fetch s = .run i t) : step s = exec i t := by rw [step, h]

theorem step_of_fetch_moved {s t : State} (h : fetch s = .moved t) : step s = .next t := by rw [step, h]

theorem step_of_fetch_turnedAway {s : State} {r : Refusal} (h : fetch s = .turnedAway r) : step s = .refused r := by
  rw [step, h]

theorem fetchWord_ok {w : RawWord} {i : Instr} (h : decode w = .ok i) (rest : List Input) (s : State) :
    fetchWord w rest s = .run i (accept rest s) := by rw [fetchWord, h]

theorem fetchWord_error {w : RawWord} {e : DecodeError} (h : decode w = .error e) (rest : List Input) (s : State) :
    fetchWord w rest s = .turnedAway (.undecodable e) := by rw [fetchWord, h]

section
variable {s : State} {rest : List Input} (hidle : s.ctl.stack = [])
include hidle

/-! Each kind of request, as a fetch of an idle block that finds it at the front of the inbox. -/

theorem fetch_issue {w : RawWord} (h : s.inbox = .issue w :: rest) :
    fetch s = if isItem w.format then .turnedAway .wrongKind else fetchWord w rest s := by
  rw [fetch, h]
  simp [fetchIssue, busy_idle hidle]

theorem fetch_transfer {w : RawWord} (h : s.inbox = .transfer w :: rest) :
    fetch s = if isItem w.format then fetchWord w rest s else .turnedAway .wrongKind := by
  rw [fetch, h]
  simp [fetchTransfer, busy_idle hidle]

theorem fetch_call {sel : BitVec 4} {arg : Byte} (h : s.inbox = .call sel arg :: rest)
    (hsel : internalCode sel = false) : fetch s = fetchWord (portWord sel arg) rest s := by
  rw [fetch, h]
  simp [fetchCall, busy_idle hidle, hsel]

/-- A call runs the instruction that its ports' word decodes to. -/
theorem step_call {sel : BitVec 4} {arg : Byte} {i : Instr} (h : s.inbox = .call sel arg :: rest)
    (hsel : internalCode sel = false) (hdec : decode (portWord sel arg) = .ok i) : step s = exec i (accept rest s) :=
  step_of_fetch_run ((fetch_call hidle h hsel).trans (fetchWord_ok hdec rest s))

/-- A start whose operation has no control point runs as one step. -/
theorem fetch_start_exec {sel : BitVec 4} {arg : Byte} {i : Instr} (h : s.inbox = .start sel arg :: rest)
    (hsel : internalCode sel = false) (hdec : decode (portWord sel arg) = .ok i) (hp : startPoint i = none) :
    fetch s = .run i (accept rest s) := by
  rw [fetch, h]
  simp [fetchStart, busy_idle hidle, hsel, hdec, hp]

/-- A start whose operation has control points begins at its first. -/
theorem fetch_start_point {sel : BitVec 4} {arg : Byte} {i : Instr} {p : Point} (h : s.inbox = .start sel arg :: rest)
    (hsel : internalCode sel = false) (hdec : decode (portWord sel arg) = .ok i) (hp : startPoint i = some p) :
    fetch s = .moved (startAt p rest s) := by
  rw [fetch, h]
  simp [fetchStart, busy_idle hidle, hsel, hdec, hp]

end

/-- Settles O3: by the fetch of an idle block for each kind of request, and the tick where nothing is asked. -/
theorem stepRunsTheDecodedInstruction : Obligations.StepRunsTheDecodedInstruction := by
  refine ⟨fun s rest i hidle => ⟨?_, ?_, ?_, ?_⟩, fun s rest w hidle => ⟨?_, ?_⟩, fun s => ⟨?_, ?_⟩⟩
  · intro w hin hitem hdec
    exact step_of_fetch_run (by rw [fetch_issue hidle hin, hitem, if_neg Bool.false_ne_true, fetchWord_ok hdec]; rfl)
  · intro w hin hitem hdec
    exact step_of_fetch_run (by rw [fetch_transfer hidle hin, hitem, if_pos rfl, fetchWord_ok hdec]; rfl)
  · intro sel arg hin hsel hdec
    exact step_call hidle hin hsel hdec
  · intro sel arg hin hsel hdec
    exact ⟨fun hp => step_of_fetch_run (fetch_start_exec hidle hin hsel hdec hp),
      fun p hp => step_of_fetch_moved (fetch_start_point hidle hin hsel hdec hp)⟩
  · intro hin
    refine ⟨fun hitem => ?_, fun hitem e hdec => ?_⟩ <;> apply step_of_fetch_turnedAway
    · rw [fetch_issue hidle hin, hitem, if_pos rfl]
    · rw [fetch_issue hidle hin, hitem, if_neg Bool.false_ne_true, fetchWord_error hdec]
  · intro hin
    refine ⟨fun hitem => ?_, fun hitem e hdec => ?_⟩ <;> apply step_of_fetch_turnedAway
    · rw [fetch_transfer hidle hin, hitem, if_neg Bool.false_ne_true]
    · rw [fetch_transfer hidle hin, hitem, if_pos rfl, fetchWord_error hdec]
  · intro hin
    exact ⟨step_no_input hin, fun hidle => by rw [step_no_input hin, tick_idle hidle]⟩
  · intro rest hin
    exact ⟨step_unasked hin, fun hidle => by rw [step_unasked hin, tick_idle (s := arrived rest s) hidle]; rfl⟩

/-! ## The state after reset -/

/-- Settles O1: the lines and the control state as reset writes them, and an idle block's tick. -/
theorem resetReleasesBothLinesAndIsIdle : Obligations.ResetReleasesBothLinesAndIsIdle := by
  refine ⟨rfl, rfl, rfl, ?_⟩
  rw [step_no_input rfl, tick_idle rfl]

theorem reset_nestingLegal : NestingLegal State.reset := ⟨trivial, fun _ => rfl⟩

theorem reset_rangesFit : RangesFit State.reset where
  nesting := reset_nestingLegal
  i := by decide
  ones := by decide
  count := Nat.zero_le _
  seq := by decide
  k := by decide
  result := by decide
  moveX := by decide
  moveY := by decide
  moveZ := by decide
  ret _ hret := nomatch hret
  points _ hp := nomatch hp
  payload hb2 := nomatch hb2

/-- Settles O50: no operation is active after reset, and every register holds 0. -/
theorem resetMeetsTheInvariants : Obligations.ResetMeetsTheInvariants := by
  refine ⟨⟨fun _ => rfl, fun _ => rfl⟩, reset_nestingLegal, ⟨reset_nestingLegal, ?_⟩, reset_rangesFit, by decide, ?_⟩
  · intro p hp; cases hp
  · intro _ p hp; cases hp

/-! ## What an earlier operation left on the lines -/

theorem requestToSend_pins (b : Byte) (s : State) (p q : Pin) :
    requestToSend b { s with clock := p, data := q } = requestToSend b s := rfl

theorem receiveStart_pins (s : State) (p q : Pin) :
    receiveStart { s with clock := p, data := q } = receiveStart s := rfl

theorem sendByte_pins (b : Byte) (s : State) (p q : Pin) :
    sendByte b { s with clock := p, data := q } = sendByte b s := by rw [sendByte, requestToSend_pins, ← sendByte]

theorem receiveByte_pins (s : State) (p q : Pin) : receiveByte { s with clock := p, data := q } = receiveByte s := by
  rw [receiveByte, receiveStart_pins, ← receiveByte]

theorem writeAndReadAck_pins (b : Byte) (s : State) (p q : Pin) :
    writeAndReadAck b { s with clock := p, data := q } = writeAndReadAck b s := by
  rw [writeAndReadAck, sendByte_pins, ← writeAndReadAck]

theorem update_pins (s : State) (p q : Pin) : update { s with clock := p, data := q } = update s := by
  rw [update, writeAndReadAck_pins, ← update]

theorem exchange_pins (b : Byte) (n : Nat) (s : State) (p q : Pin) :
    exchange b n { s with clock := p, data := q } = exchange b n s := by
  rw [exchange, writeAndReadAck_pins, ← exchange]

theorem beginFrom_pins (n : Nat) (ns : List Nat) (s : State) (p q : Pin) :
    beginFrom (n :: ns) { s with clock := p, data := q } = beginFrom (n :: ns) s := by
  have hx : exchange (initAt n) (payloadAt n) { { s with clock := p, data := q } with seq := n } =
    exchange (initAt n) (payloadAt n) { s with seq := n } := exchange_pins _ _ { s with seq := n } p q
  rw [beginFrom, hx, ← beginFrom]

theorem beginSession_pins (s : State) (p q : Pin) :
    beginSession { s with clock := p, data := q } = beginSession s := beginFrom_pins 0 [1, 2, 3, 4, 5, 6] s p q

/-- Settles O18: every operation begins with the request-to-send or the start of a receive, which set both lines. -/
theorem leftoverLineModesDoNotMatter : Obligations.LeftoverLineModesDoNotMatter := by
  intro s p q b
  exact ⟨congrArg answer (sendByte_pins b s p q), congrArg answer (receiveByte_pins s p q),
    congrArg answer (receiveByte_pins s p q), congrArg answer (writeAndReadAck_pins b s p q),
    congrArg Host.Outcome.next (update_pins s p q), congrArg answer (beginSession_pins s p q)⟩

end Sys2Proof.Machine
end

section
/-! PROOFS. What a tick of the control points keeps, and the nest of operations (10_state.md R30 to R33). -/

namespace Sys2Proof.Machine

/-! ## The report, the event and the inbox at a tick -/

/-- What a tick at point `p` keeps of the report, of the event and of what has arrived. -/
structure TickFrame (p : Point) (s t : State) : Prop where
  b3 : t.rep.b3 = s.rep.b3
  inbox : t.inbox = s.inbox
  ev : p ≠ .u2 → t.ev = s.ev
  rep : p ≠ .u1 → t.rep = s.rep

theorem TickFrame.of_same {p : Point} {s t : State} (hrep : t.rep = s.rep) (hev : t.ev = s.ev)
    (hinbox : t.inbox = s.inbox) : TickFrame p s t :=
  ⟨congrArg Report.b3 hrep, hinbox, fun _ => hev, fun _ => hrep⟩

theorem returnResult_tickFrame {p : Point} {s t : State} (rest : List Point) (v : Int) (hrep : t.rep = s.rep)
    (hev : t.ev = s.ev) (hinbox : t.inbox = s.inbox) : TickFrame p s (returnResult rest v t) := by
  cases rest <;> exact .of_same hrep hev hinbox

/-- The action of a point writes no report byte, and the event at U2 only. -/
theorem runPoint_tickFrame (p : Point) (rest : List Point) (s : State) : TickFrame p s (runPoint p rest s) := by
  cases p <;> simp only [runPoint]
  case w1 l v =>
    split
    · exact returnResult_tickFrame _ _ rfl rfl rfl
    · split
      · exact returnResult_tickFrame _ _ rfl rfl rfl
      · exact .of_same rfl rfl rfl
  case s9 => exact .of_same (putSlot_rep s) (putSlot_ev s) (putSlot_inbox s)
  case s12 =>
    split
    · exact returnResult_tickFrame _ _ rfl rfl rfl
    · exact .of_same rfl rfl rfl
  case v5 =>
    rcases takeSlot_frame (sampleLine .data s).1 (sampleLine .data s).2 with ⟨a, o, h⟩ | ⟨c, h⟩ <;> rw [h]
    · dsimp only
      split <;> exact .of_same rfl rfl rfl
    · exact returnResult_tickFrame _ _ rfl rfl rfl
  case b2 => split <;> exact .of_same rfl rfl rfl
  case b3 => split <;> exact .of_same rfl rfl rfl
  case s14 => exact returnResult_tickFrame _ _ rfl rfl rfl
  case v6 => exact returnResult_tickFrame _ _ rfl rfl rfl
  case u2 => cases rest <;> exact ⟨rfl, rfl, fun h => absurd rfl h, fun _ => rfl⟩
  all_goals exact .of_same rfl rfl rfl

/-- Taking a value writes no event, and a report byte at U1 only, never `rep[3]`. -/
theorem resumePoint_tickFrame (p : Point) (v : Int) (rest : List Point) (s : State) :
    TickFrame p s (resumePoint p v rest s) := by
  cases p <;> simp only [resumePoint]
  case s11 =>
    split
    · split <;> exact .of_same rfl rfl rfl
    · exact returnResult_tickFrame _ _ rfl rfl rfl
  case a1 => split <;> exact returnResult_tickFrame _ _ rfl rfl rfl
  case d0 => exact returnResult_tickFrame _ _ rfl rfl rfl
  case a0 b =>
    split
    · exact returnResult_tickFrame _ _ rfl rfl rfl
    · exact .of_same rfl rfl rfl
  case b4 => exact returnResult_tickFrame _ _ rfl rfl rfl
  case u1 =>
    have hstore : ∀ t : State, t.rep = (storeReport s.k v s).rep → t.ev = (storeReport s.k v s).ev →
        t.inbox = (storeReport s.k v s).inbox → TickFrame .u1 s t := fun t hrep hev hinbox =>
      ⟨by rw [hrep, storeReport_b3], by rw [hinbox, storeReport_inbox], fun _ => by rw [hev, storeReport_ev],
        fun h => absurd rfl h⟩
    split <;> exact hstore _ rfl rfl rfl
  case b2 | u0 | w0 | w1 | w2 | s0 | s1 | s2 | s3 | s4 | s5 | s6 | s7 | s9 | s12 | s14 | v0 | v1 | v2 | v5 | v6 | b0
      | b3 | u2 => exact .of_same rfl rfl rfl
  all_goals
    split
    · exact .of_same rfl rfl rfl
    · exact returnResult_tickFrame _ _ rfl rfl rfl

/-- A tick of an active block keeps what its active point keeps. -/
theorem tick_tickFrame {p : Point} {rest : List Point} {s : State} (h : s.ctl.stack = p :: rest) :
    TickFrame p s (tick s) := by
  unfold tick
  rw [h]
  dsimp only
  split
  · exact runPoint_tickFrame _ _ _
  · exact resumePoint_tickFrame _ _ _ _

/-- What has arrived waits: a tick takes nothing from the inbox. -/
theorem tick_inbox (s : State) : (tick s).inbox = s.inbox := by
  cases h : s.ctl.stack with
  | nil => rw [tick_idle h]
  | cons p rest => exact (tick_tickFrame h).inbox

/-- Settles O36: by the frame of a tick at its active point. -/
theorem onlyTheDecodePointWritesTheEvent : Obligations.OnlyTheDecodePointWritesTheEvent := by
  intro s hin
  refine ⟨tick s, step_no_input hin, ?_⟩
  cases h : s.ctl.stack with
  | nil => rw [tick_idle h]; exact ⟨rfl, fun _ => rfl, fun _ => rfl⟩
  | cons p rest =>
    have f := tick_tickFrame h
    exact ⟨f.b3, fun hp => f.ev (by simpa using hp), fun hp => f.rep (by simpa using hp)⟩

/-! ## The depth of a nest -/

/-- How many operations can be nested inside one of this kind. -/
def nestRank : Operation → Nat
  | .wait => 0
  | .send | .receive => 1
  | .exchangeByte | .read => 2
  | .update => 3
  | .begin_ => 4

theorem nestRank_le (o : Operation) : nestRank o ≤ 4 := by cases o <;> decide

theorem nestRank_calls {p : Point} {o : Operation} (h : calls p = some o) : nestRank o < nestRank (operationOf p) := by
  cases p <;> cases h <;> simp [nestRank, operationOf]

/-- Every caller ranks above what it calls, so a nest is at most as deep as the ranks left above its innermost one. -/
theorem nestedCalls_length {p : Point} {rest : List Point} (h : nestedCalls (p :: rest)) :
    nestRank (operationOf p) + (p :: rest).length ≤ 5 := by
  induction rest generalizing p with
  | nil => exact Nat.succ_le_succ (nestRank_le _)
  | cons q below ih =>
    obtain ⟨hcall, hbelow⟩ := h
    have hrank := nestRank_calls hcall
    have hlen := ih hbelow
    simp only [List.length_cons] at hlen ⊢
    omega

/-- Settles O53: by the ranks of the operations, which a call lowers. -/
theorem legalNestsAreAtMostFiveDeep : Obligations.LegalNestsAreAtMostFiveDeep := by
  intro s ⟨hnest, _⟩
  cases h : s.ctl.stack with
  | nil => exact Nat.zero_le _
  | cons p rest =>
    have := nestedCalls_length (h ▸ hnest)
    omega

end Sys2Proof.Machine
end

section
/-! PROOFS. What the session's operations keep, and what an instruction can be: from them the frames of every meaning
(10_state.md R21, R30, R31, R33). -/

namespace Sys2Proof.Machine

/-! ## Properties that the parts of the session keep -/

/-- A property of the state that the parts of an exchange keep. -/
structure ExchangeKeeps (P : State → Prop) : Prop where
  send : ∀ b s, P s → P (sendByte b s).2
  receive : ∀ s, P s → P (receiveByte s).2
  setK : ∀ n s, P s → P { s with k := n }

/-- A property that the parts of `begin` and `update` keep. -/
structure SessionKeeps (P : State → Prop) : Prop extends ExchangeKeeps P where
  setSeq : ∀ n s, P s → P { s with seq := n }
  store : ∀ n v s, P s → P (storeReport n v s)
  decode : ∀ s, P s → P (decodeReport s)

/-- A property that every part of every instruction keeps. -/
structure InstrKeeps (P : State → Prop) : Prop extends SessionKeeps P where
  present : ∀ a s, P s → P (present a s)
  finish : ∀ v s, P s → P (finish v s)
  delay : ∀ n s, P s → P (delayFor n s)
  release : ∀ l s, P s → P (releaseLine l s)
  drive : ∀ l v s, P s → P (driveLine l v s)
  sample : ∀ l s, P s → P (sampleLine l s).2
  wait : ∀ l v s, P s → P (waitForLevel l v Config.waitCeiling s).2

section
variable {P : State → Prop}

theorem ExchangeKeeps.exchangeByte (h : ExchangeKeeps P) (b : Byte) (s : State) (hs : P s) :
    P (writeAndReadAck b s).2 := by
  rw [writeAndReadAck_state]
  split
  · exact h.send b s hs
  · exact h.receive _ (h.send b s hs)

theorem ExchangeKeeps.payloadReads (h : ExchangeKeeps P) (n : Nat) (s : State) (hs : P s) : P (payloadReads n s) := by
  induction n generalizing s with
  | zero => exact hs
  | succ n ih => exact ih _ (h.setK _ _ (h.receive s hs))

theorem ExchangeKeeps.exchange (h : ExchangeKeeps P) (b : Byte) (n : Nat) (s : State) (hs : P s) :
    P (exchange b n s).2 := by
  unfold Machine.exchange
  dsimp only
  split
  · exact h.payloadReads n _ (h.setK _ _ (h.exchangeByte b s hs))
  · exact h.exchangeByte b s hs

theorem SessionKeeps.reportRead (h : SessionKeeps P) (n : Nat) (s : State) (hs : P s) : P (reportRead n s) :=
  h.store _ _ _ (h.receive _ (h.setK n s hs))

theorem SessionKeeps.reportReads (h : SessionKeeps P) (ns : List Nat) (s : State) (hs : P s) :
    P (reportReads ns s) := by
  induction ns generalizing s with
  | nil => exact hs
  | cons n rest ih => exact ih _ (h.reportRead n s hs)

theorem SessionKeeps.update (h : SessionKeeps P) (s : State) (hs : P s) : P (update s) :=
  h.decode _ (h.reportReads _ _ (h.exchangeByte _ s hs))

theorem SessionKeeps.beginFrom (h : SessionKeeps P) (ns : List Nat) (s : State) (hs : P s) : P (beginFrom ns s).2 := by
  induction ns generalizing s with
  | nil => exact h.update s hs
  | cons n rest ih =>
    have hx := h.exchange (initAt n) (payloadAt n) _ (h.setSeq n s hs)
    unfold Machine.beginFrom
    dsimp only
    split
    · exact ih _ hx
    · exact hx

theorem SessionKeeps.beginSession (h : SessionKeeps P) (s : State) (hs : P s) : P (beginSession s).2 :=
  h.beginFrom initSteps s hs

end

/-! ## What an instruction can be -/

/-- What an instruction does on a state: one of the byte transport's operations against a device that may show an item
first, one of the session's, one of the line transport's, nothing, or a refusal of a reserved code. -/
inductive ExecForm (s : State) : Instr → Host.Outcome State Fault Refusal → Prop where
  | send (i : Instr) (b : Byte) (a : List Pulls) : ExecForm s i (answer (sendByte b (present a s)))
  | receive (i : Instr) (a : List Pulls) : ExecForm s i (answer (receiveByte (present a s)))
  | exchangeByte (i : Instr) (b : Byte) : ExecForm s i (answer (writeAndReadAck b s))
  | exchange (i : Instr) (b : Byte) (n : Nat) : ExecForm s i (answer (exchange b n s))
  | firstReport (b : Byte) (a : List Pulls) : ExecForm s (.reportFlags b) (.next (reportRead 0 (present a s)))
  | secondReport (b : Byte) (a : List Pulls) : ExecForm s (.reportX b) (.next (reportRead 1 (present a s)))
  | lastReport (b : Byte) (a : List Pulls) :
      ExecForm s (.reportY b) (.next (decodeReport (reportRead 2 (present a s))))
  | update : ExecForm s .opUpdate (.next (update s))
  | begin_ : ExecForm s .opBegin (answer (beginSession s))
  | nothing (i : Instr) : ExecForm s i (.next s)
  | delay (i : Instr) (n : Nat) : ExecForm s i (.next (delayFor n s))
  | release (i : Instr) (l : Line) : ExecForm s i (.next (releaseLine l s))
  | drive (i : Instr) (l : Line) (v : Level) : ExecForm s i (.next (driveLine l v s))
  | sample (i : Instr) (l : Line) : ExecForm s i (answer ((sampleLine l s).1.toNat, (sampleLine l s).2))
  | wait (i : Instr) (l : Line) (v : Level) :
      ExecForm s i (answer ((waitForLevel l v Config.waitCeiling s).1.toNat, (waitForLevel l v Config.waitCeiling s).2))
  | refused (i : Instr) (r : Refusal) (h : i = .reserved0 ∨ i = .reserved6 ∨ i = .reserved7) : ExecForm s i (.refused r)

theorem exec_form (i : Instr) (s : State) : ExecForm s i (exec i s) := by
  cases i with
  | cmdReset | cmdSetDefaults | cmdSetRemoteMode | cmdStatusRequest | cmdReadData => exact .exchange _ _ _
  | cmdResend | cmdDisableDataReporting | cmdEnableDataReporting | cmdSetSampleRate | cmdGetDeviceId | cmdSetWrapMode
  | cmdResetWrapMode | cmdSetStreamMode | cmdSetResolution | opWra b => exact .exchangeByte _ _
  | rspAck | frameD2H start data parity stop => exact .receive _ _
  | frameH2D data ack => exact .send _ _ _
  | reportFlags b => exact .firstReport _ _
  | reportX b => exact .secondReport _ _
  | reportY b => exact .lastReport _ _
  | opBegin => exact .begin_
  | opUpdate => exact .update
  | reportZ b | opSetRes arg | opSetRate arg => exact .nothing _
  | opDelay n => exact .delay _ _
  | opSend b => exact .send _ b []
  | opRecv | opRead => exact .receive _ []
  | opRelease line => exact .release _ _
  | opDrive line level => exact .drive _ _ _
  | opRdlvl line => exact .sample _ _
  | opWait line level => exact .wait _ _ _
  | reserved0 | reserved6 | reserved7 => exact .refused _ _ (by simp)

/-- What every part of an instruction keeps, the instruction keeps. -/
theorem InstrKeeps.exec {P : State → Prop} (h : InstrKeeps P) {i : Instr} {s t : State} (hexec : exec i s = .next t)
    (hs : P s) : P t := by
  have hform := exec_form i s
  rw [hexec] at hform
  cases hform with
  | send => exact h.finish _ _ (h.send _ _ (h.present _ _ hs))
  | receive => exact h.finish _ _ (h.receive _ (h.present _ _ hs))
  | exchangeByte => exact h.finish _ _ (h.exchangeByte _ _ hs)
  | exchange => exact h.finish _ _ (h.exchange _ _ _ hs)
  | firstReport => exact h.reportRead _ _ (h.present _ _ hs)
  | secondReport => exact h.reportRead _ _ (h.present _ _ hs)
  | lastReport => exact h.decode _ (h.reportRead _ _ (h.present _ _ hs))
  | update => exact h.update s hs
  | begin_ => exact h.finish _ _ (h.beginSession s hs)
  | nothing => exact hs
  | delay => exact h.delay _ _ hs
  | release => exact h.release _ _ hs
  | drive => exact h.drive _ _ _ hs
  | sample => exact h.finish _ _ (h.sample _ _ hs)
  | wait => exact h.finish _ _ (h.wait _ _ _ hs)

/-- Every instruction but the reserved codes answers a next state. -/
theorem exec_next {i : Instr} (s : State) (h0 : i ≠ .reserved0) (h6 : i ≠ .reserved6) (h7 : i ≠ .reserved7) :
    ∃ t, exec i s = .next t := by
  generalize ho : exec i s = o
  have hform := exec_form i s
  rw [ho] at hform
  cases hform with
  | refused _ _ hr =>
    rcases hr with hr | hr | hr
    · exact absurd hr h0
    · exact absurd hr h6
    · exact absurd hr h7
  | _ => exact ⟨_, rfl⟩

/-! ## What every instruction keeps -/

/-- What every meaning keeps: the control state, `op_done` and `rep[3]`. -/
structure KeepsControl (s t : State) : Prop where
  ctl : t.ctl = s.ctl
  done : t.done = s.done
  b3 : t.rep.b3 = s.rep.b3

theorem KeepsControl.refl (s : State) : KeepsControl s s := ⟨rfl, rfl, rfl⟩

theorem KeepsControl.trans {s t u : State} (h : KeepsControl s t) (g : KeepsControl t u) : KeepsControl s u :=
  ⟨g.ctl.trans h.ctl, g.done.trans h.done, g.b3.trans h.b3⟩

theorem SameSession.keepsControl {s t : State} (h : SameSession s t) : KeepsControl s t :=
  ⟨h.ctl, h.done, congrArg Report.b3 h.rep⟩

theorem instrKeeps_control (s₀ : State) : InstrKeeps (KeepsControl s₀) where
  send b s h := h.trans (sendByte_same b s).1.keepsControl
  receive s h := h.trans (receiveByte_same s).1.keepsControl
  setK _ _ h := ⟨h.ctl, h.done, h.b3⟩
  setSeq _ _ h := ⟨h.ctl, h.done, h.b3⟩
  store n v s h := h.trans ⟨storeReport_ctl n v s, storeReport_done n v s, storeReport_b3 n v s⟩
  decode _ h := ⟨h.ctl, h.done, h.b3⟩
  present _ _ h := ⟨h.ctl, h.done, h.b3⟩
  finish v s h := h.trans (finish_same v s).keepsControl
  delay n s h := h.trans (delayFor_same n s).keepsControl
  release l s h := h.trans (releaseLine_same l s).keepsControl
  drive l v s h := h.trans (driveLine_same l v s).keepsControl
  sample _ _ h := ⟨h.ctl, h.done, h.b3⟩
  wait l v s h := h.trans ⟨by rw [waitForLevel_frame], by rw [waitForLevel_frame], by rw [waitForLevel_frame]⟩

theorem exec_keepsControl {i : Instr} {s t : State} (h : exec i s = .next t) : KeepsControl s t :=
  (instrKeeps_control s).exec h (.refl s)

/-! ## The report and the event -/

/-- The report and the event as they were. -/
structure SameReport (s t : State) : Prop where
  rep : t.rep = s.rep
  ev : t.ev = s.ev

theorem SameReport.trans {s t u : State} (h : SameReport s t) (g : SameReport t u) : SameReport s u :=
  ⟨g.rep.trans h.rep, g.ev.trans h.ev⟩

theorem SameSession.sameReport {s t : State} (h : SameSession s t) : SameReport s t := ⟨h.rep, h.ev⟩

theorem exchangeKeeps_report (s₀ : State) : ExchangeKeeps (SameReport s₀) where
  send b s h := h.trans (sendByte_same b s).1.sameReport
  receive s h := h.trans (receiveByte_same s).1.sameReport
  setK _ _ h := ⟨h.rep, h.ev⟩

theorem waitForLevel_sameReport (l : Line) (v : Level) (budget : Nat) (s : State) :
    SameReport s (waitForLevel l v budget s).2 := ⟨by rw [waitForLevel_frame], by rw [waitForLevel_frame]⟩

theorem reportRead_ev (n : Nat) (s : State) : (reportRead n s).ev = s.ev := by
  obtain ⟨h, -⟩ := receiveByte_same { s with k := n }
  exact (storeReport_ev _ _ _).trans h.ev

/-- What the device shows changes neither. -/
theorem SameReport.of_present {a : List Pulls} {s t : State} (h : SameReport (present a s) t) : SameReport s t :=
  ⟨h.rep, h.ev⟩

/-- The end of the caller's operation writes neither. -/
theorem SameReport.finish {s t : State} (h : SameReport s t) (v : Int) : SameReport s (finish v t) := ⟨h.rep, h.ev⟩

/-- An instruction leaves the report and the event alone unless it is a session operation or a report byte; a report
byte that is not the last leaves the event alone. -/
theorem exec_report {i : Instr} {s t : State} (h : exec i s = .next t) :
    SameReport s t ∨ (t.ev = s.ev ∧ ∃ b, i = .reportFlags b ∨ i = .reportX b) ∨
      i = .opBegin ∨ i = .opUpdate ∨ ∃ b, i = .reportY b := by
  have hform := exec_form i s
  have hx := exchangeKeeps_report s
  rw [h] at hform
  cases hform with
  | send _ b a => exact .inl ((sendByte_same b (present a s)).1.sameReport.of_present.finish _)
  | receive _ a => exact .inl ((receiveByte_same (present a s)).1.sameReport.of_present.finish _)
  | exchangeByte => exact .inl ((hx.exchangeByte _ s ⟨rfl, rfl⟩).finish _)
  | exchange => exact .inl ((hx.exchange _ _ s ⟨rfl, rfl⟩).finish _)
  | firstReport b a => exact .inr (.inl ⟨reportRead_ev 0 (present a s), b, .inl rfl⟩)
  | secondReport b a => exact .inr (.inl ⟨reportRead_ev 1 (present a s), b, .inr rfl⟩)
  | lastReport b => exact .inr (.inr (.inr (.inr ⟨b, rfl⟩)))
  | update => exact .inr (.inr (.inr (.inl rfl)))
  | begin_ => exact .inr (.inr (.inl rfl))
  | nothing => exact .inl ⟨rfl, rfl⟩
  | delay => exact .inl ⟨rfl, rfl⟩
  | release => exact .inl (releaseLine_same _ s).sameReport
  | drive => exact .inl (driveLine_same _ _ s).sameReport
  | sample => exact .inl ⟨rfl, rfl⟩
  | wait => exact .inl ((waitForLevel_sameReport _ _ _ s).finish _)

/-- Settles O35: `rep[3]` by what every instruction keeps, the event and the other bytes by `exec_report`. -/
theorem onlyReportDecodingWritesTheEvent : Obligations.OnlyReportDecodingWritesTheEvent := by
  intro i s h0 h6 h7
  obtain ⟨t, ht⟩ := exec_next s h0 h6 h7
  refine ⟨t, ht, (exec_keepsControl ht).b3, fun hb hu hy => ?_, fun hb hu hf hx hy => ?_⟩
  · rcases exec_report ht with h | ⟨h, -⟩ | h | h | ⟨b, h⟩
    · exact h.ev
    · exact h
    · exact absurd h hb
    · exact absurd h hu
    · exact absurd h (hy b)
  · rcases exec_report ht with h | ⟨-, b, h | h⟩ | h | h | ⟨b, h⟩
    · exact h.rep
    · exact absurd h (hf b)
    · exact absurd h (hx b)
    · exact absurd h hb
    · exact absurd h hu
    · exact absurd h (hy b)

/-! ## Every step keeps the nest -/

theorem tick_move {p : Point} {rest : List Point} {s : State} (h : s.ctl.stack = p :: rest) :
    ControlMove p rest (tick s).ctl := by
  unfold tick
  rw [h]
  dsimp only
  split
  · exact runPoint_move _ _ _
  · exact resumePoint_move _ _ _ _

theorem nestedCalls_tail {p : Point} {rest : List Point} (h : nestedCalls (p :: rest)) : nestedCalls rest := by
  cases rest with
  | nil => trivial
  | cons q below => exact h.2

/-- Another point of the same operation may stand in its place. -/
theorem nestedCalls_goto {p q : Point} {rest : List Point} (hop : operationOf q = operationOf p)
    (h : nestedCalls (p :: rest)) : nestedCalls (q :: rest) := by
  cases rest with
  | nil => trivial
  | cons r below => exact ⟨by rw [hop]; exact h.1, h.2⟩

/-- Every move of the control state leads from a legal nest to a legal nest. -/
theorem ControlMove.legal {p : Point} {rest : List Point} {c : Control} (hmove : ControlMove p rest c)
    (h : nestedCalls (p :: rest)) : nestedCalls c.stack ∧ (c.stack = [] → c.ret = none) := by
  cases hmove with
  | goto q hop => exact ⟨nestedCalls_goto hop h, fun _ => rfl⟩
  | call c hc => exact ⟨⟨hc, h⟩, fun _ => rfl⟩
  | ret v hrest => exact ⟨nestedCalls_tail h, fun he => absurd he hrest⟩
  | idle => exact ⟨trivial, fun _ => rfl⟩

theorem tick_nestingLegal {s : State} (h : NestingLegal s) : NestingLegal (tick s) := by
  cases hst : s.ctl.stack with
  | nil => rw [tick_idle hst]; exact h
  | cons p rest => exact (tick_move hst).legal (hst ▸ h.1)

/-- Settles O52: a tick is a move of the control state, an instruction leaves it alone, a start begins a nest of one. -/
theorem everyStepKeepsTheNestLegal : Obligations.EveryStepKeepsTheNestLegal := by
  intro s t h hstep
  rcases step_cases hstep with ⟨rest, rfl⟩ | ⟨rest, rfl⟩ | ⟨rest, i, -, hexec⟩ | ⟨rest, i, p, -, -, rfl⟩
  · exact tick_nestingLegal (s := arrived rest s) h
  · exact ⟨trivial, fun _ => rfl⟩
  · have hctl : t.ctl = s.ctl := (exec_keepsControl hexec).ctl
    unfold NestingLegal
    rw [hctl]
    exact h
  · exact ⟨trivial, fun _ => rfl⟩

/-! ## Every step keeps the lines rested -/

theorem linesRested_of_pins {s t : State} (hc : t.clock = s.clock) (hd : t.data = s.data) (h : LinesRested s) :
    LinesRested t := by
  unfold LinesRested
  rw [hc, hd]
  exact h

theorem releaseLine_rested (l : Line) {s : State} (h : LinesRested s) : LinesRested (releaseLine l s) := by
  cases l
  · exact ⟨fun _ => rfl, h.2⟩
  · exact ⟨h.1, fun _ => rfl⟩

theorem driveLine_rested (l : Line) (v : Level) {s : State} (h : LinesRested s) : LinesRested (driveLine l v s) := by
  cases l
  · exact ⟨fun hm => (by cases hm), h.2⟩
  · exact ⟨h.1, fun hm => (by cases hm)⟩

theorem waitForLevel_rested (l : Line) (v : Level) (budget : Nat) {s : State} (h : LinesRested s) :
    LinesRested (waitForLevel l v budget s).2 :=
  linesRested_of_pins (waitForLevel_clock _ _ _ _) (waitForLevel_data _ _ _ _) h

theorem waitOr_rested (l : Line) (v : Level) (code : Int) {s : State} (h : LinesRested s) :
    LinesRested (waitOr l v code s).state := by
  rw [waitOr_state]; exact waitForLevel_rested _ _ _ h

theorem putSlot_rested {s : State} (h : LinesRested s) : LinesRested (putSlot s) := by
  unfold putSlot
  split
  · exact driveLine_rested .data _ (s := s) h
  · split
    · exact driveLine_rested .data _ h
    · exact releaseLine_rested .data (s := s) h

theorem sendSlots_rested (ns : List Nat) {s : State} (h : LinesRested s) : LinesRested (sendSlots ns s).state := by
  induction ns generalizing s with
  | nil => exact h
  | cons n rest ih =>
    have hslot : LinesRested (sendSlot n s).state :=
      Progress.andThen_holds (waitOr_rested _ _ _ (putSlot_rested (s := { s with i := n }) h))
        fun _ ht => waitOr_rested _ _ _ ht
    exact Progress.andThen_holds hslot fun _ ht => ih ht

theorem ackCheck_rested {s : State} (h : LinesRested s) : LinesRested (ackCheck s).state := by
  unfold ackCheck
  dsimp only
  split
  · exact h
  · exact Progress.andThen_holds (waitOr_rested _ _ _ (s := (sampleLine .data s).2) h)
      fun t ht => driveLine_rested .clock false ht

/-- A send begins by setting both lines, so it rests what it releases whatever stood there before. -/
theorem sendByte_rested (b : Byte) (s : State) : LinesRested (sendByte b s).2 := by
  have hrequest : LinesRested (requestToSend b s) := ⟨fun _ => rfl, fun hm => (by cases hm)⟩
  unfold sendByte
  rw [Progress.toResult_state]
  exact Progress.andThen_holds (waitOr_rested _ _ _ hrequest) fun t ht =>
    Progress.andThen_holds (sendSlots_rested txSlots (s := { t with par := true }) ht) fun _ hu => ackCheck_rested hu

/-- A receive changes the clock only, and only by driving it at its end. -/
theorem receiveByte_rested (s : State) : LinesRested (receiveByte s).2 := by
  have hslots := recvSlots_frame rxSlots (s := receiveStart s) rfl rfl (.refl _)
  have hstart : LinesRested (receiveStart s) := ⟨fun _ => rfl, fun _ => rfl⟩
  unfold receiveByte
  rw [Progress.toResult_state]
  exact Progress.andThen_holds (linesRested_of_pins hslots.clock hslots.data hstart)
    fun t ht => driveLine_rested .clock false ht

theorem instrKeeps_rested : InstrKeeps LinesRested where
  send b s _ := sendByte_rested b s
  receive s _ := receiveByte_rested s
  setK _ _ h := h
  setSeq _ _ h := h
  store n v s h := linesRested_of_pins (storeReport_clock n v s) (storeReport_data n v s) h
  decode _ h := h
  present _ _ h := h
  finish _ _ h := h
  delay _ _ h := h
  release l _ h := releaseLine_rested l h
  drive l v _ h := driveLine_rested l v h
  sample _ _ h := h
  wait _ _ _ h := waitForLevel_rested _ _ _ h

theorem returnResult_rested (rest : List Point) (v : Int) {s : State} (h : LinesRested s) :
    LinesRested (returnResult rest v s) := by
  obtain ⟨hc, hd⟩ := returnResult_pins rest v s
  exact linesRested_of_pins hc hd h

theorem goto_rested {p : Point} {rest : List Point} {s : State} (h : LinesRested s) : LinesRested (goto p rest s) := h

theorem runPoint_rested (p : Point) (rest : List Point) {s : State} (h : LinesRested s) :
    LinesRested (runPoint p rest s) := by
  cases p <;> simp only [runPoint]
  case w1 l v =>
    split
    · exact returnResult_rested _ _ h
    · split
      · exact returnResult_rested _ _ h
      · exact h
  case s0 b => exact goto_rested (releaseLine_rested .data h)
  case s1 | s7 | v0 => exact goto_rested (releaseLine_rested .clock h)
  case v1 => exact goto_rested (releaseLine_rested .data h)
  case s3 => exact goto_rested (driveLine_rested .clock false h)
  case s5 => exact goto_rested (driveLine_rested .data false h)
  case s9 => exact goto_rested (putSlot_rested h)
  case s12 =>
    split
    · exact returnResult_rested _ _ h
    · exact h
  case s14 | v6 => exact returnResult_rested _ _ (driveLine_rested .clock false h)
  case v5 =>
    rcases takeSlot_frame (sampleLine .data s).1 (sampleLine .data s).2 with ⟨a, o, hv⟩ | ⟨c, hv⟩ <;> rw [hv]
    · dsimp only
      split <;> exact h
    · exact returnResult_rested _ _ h
  case b2 => split <;> exact h
  case b3 => split <;> exact h
  case u2 => cases rest <;> exact h
  all_goals exact h

theorem tick_rested {s : State} (h : LinesRested s) : LinesRested (tick s) := by
  unfold tick
  split
  · exact h
  · split
    · exact runPoint_rested _ _ h
    · obtain ⟨hc, hd⟩ := resumePoint_pins _ _ _ s
      exact linesRested_of_pins hc hd h

/-- Settles O51: a line is released with output level 1 only, at every tick and in every instruction. -/
theorem everyStepKeepsLinesRested : Obligations.EveryStepKeepsLinesRested := by
  intro s t h hstep
  rcases step_cases hstep with ⟨rest, rfl⟩ | ⟨rest, rfl⟩ | ⟨rest, i, -, hexec⟩ | ⟨rest, i, p, -, -, rfl⟩
  · exact tick_rested (s := arrived rest s) h
  · exact ⟨fun _ => rfl, fun _ => rfl⟩
  · exact instrKeeps_rested.exec hexec h
  · exact h

end Sys2Proof.Machine
end

section
/-! PROOFS. The control points of 10_state.md R34 to R37 against the pseudocode: started at its first point and left to
run, an operation reaches the state its meaning gives, for every device (70_reset_and_hazards.md R222). -/

namespace Sys2Proof.Machine

/-! ## Running the control points -/

/-- One state is reached from another by ticks. -/
abbrev Reaches : State → State → Prop := Relation.ReflTransGen fun s t => t = tick s

theorem Reaches.tick {s t : State} (h : Reaches (tick s) t) : Reaches s t := .head rfl h

theorem Reaches.of_tick {s t : State} (h : Machine.tick s = t) : Reaches s t := .single h.symm

theorem Reaches.ticks (n : Nat) (s : State) : Reaches s (Machine.tick^[n] s) := by
  induction n generalizing s with
  | zero => exact .refl
  | succ n ih => exact .tick (ih _)

/-- A started request at a control point, the operations of `rest` waiting below it; `op_done` is clear (D18). -/
def atPoint (p : Point) (rest : List Point) (s : State) : State := { s with ctl := ⟨p :: rest, none⟩, done := false }

/-- A started request whose innermost operation has just handed back a value; the caller's own has ended the request. -/
def handedBack : List Point → Int → State → State
  | [], v, s => { finish v s with ctl := .idle, done := true }
  | p :: below, v, s => { s with ctl := ⟨p :: below, some v⟩, done := false }

/-- The operation that starts at `p` and has the meaning `f` reaches, from its first control point, the value and the
state of its meaning, whatever operations wait below. -/
def RunsAs (p : Point) (f : State → Int × State) : Prop :=
  ∀ rest s, Reaches (atPoint p rest s) (handedBack rest (f s).1 (f s).2)

/-- Where the control points stand after a part of an operation: at `next` if it goes on, else the abort's code has been
handed back. -/
def Progress.land (p : Progress) (rest : List Point) (next : State → State) : State :=
  match p with
  | .going s => next s
  | .aborted code s => handedBack rest code s

theorem Progress.land_andThen (p : Progress) (f : State → Progress) (rest : List Point) (next : State → State) :
    (p.andThen f).land rest next = p.land rest fun s => (f s).land rest next := by
  cases p <;> rfl

/-- A part that ends an operation lands where the operation's value has been handed back. -/
theorem Progress.land_toResult (p : Progress) (value : State → Int) (rest : List Point) :
    p.land rest (fun s => handedBack rest (value s) s) =
      handedBack rest (p.toResult value).1 (p.toResult value).2 := by
  cases p <;> rfl

/-- What follows a part is reached where the part goes on. -/
theorem Reaches.land {s : State} {p : Progress} {rest : List Point} {next after : State → State}
    (h : Reaches s (p.land rest next)) (hnext : ∀ t, p = .going t → Reaches (next t) (after t)) :
    Reaches s (p.land rest after) := by
  cases p with
  | going t => exact h.trans (hnext t rfl)
  | aborted c t => exact h

/-! ## Moves of the control state -/

@[simp] theorem returnResult_started (rest : List Point) (v : Int) (c : Control) (s : State) :
    returnResult rest v { s with ctl := c, done := false } = handedBack rest v s := by
  cases rest <;> rfl

/-! ## The bounded wait (R34) -/

/-- One pass of the poll loop, whether the device's entries have run out or not. -/
theorem pollFrom_pass (l : Line) (v : Level) (budget : Nat) (s : State) (hc : s.count ≤ budget) :
    pollFrom l v budget s.device s =
      if (look l s).1 = v then (true, (look l s).2)
      else if s.count + 1 > budget then (false, { (look l s).2 with count := s.count + 1 })
      else pollFrom l v budget s.device.tail { (look l s).2 with count := s.count + 1 } := by
  cases hd : s.device with
  | cons p rest => rw [pollFrom]; rfl
  | nil =>
    have hstay : (look l s).2 = s := by simpa [afterSamples] using afterSamples_no_device l 1 s hd
    have hlevel : (look l s).1 = levelOf (readPin l s) false s.draws := by
      simp only [look, nextPulls, hd, List.headD_nil]; cases l <;> rfl
    have hpin : readPin l { s with count := s.count + 1 } = readPin l s := by cases l <;> rfl
    rw [hstay, hlevel]
    simp only [List.tail_nil, pollFrom, hpin]
    split
    · rfl
    · split
      · have : s.count = budget := by omega
        rw [this]
      · rfl

/-- The state of a wait whose polls have ended: its event recorded. -/
def waitEnd (l : Line) (v : Level) (r : Bool × State) : State := emit (waitEvent l v r.1 r.2.count) r.2

/-- A tick of W1: the sample ends the wait, or the budget does, or it pauses. -/
theorem tick_w1 (l : Line) (v : Level) (rest : List Point) (s : State) :
    tick (atPoint (.w1 l v) rest s) =
      if (look l s).1 = v then handedBack rest 1 (waitEnd l v (true, (look l s).2))
      else if s.count + 1 > Config.waitCeiling then
        handedBack rest 0 (waitEnd l v (false, { (look l s).2 with count := s.count + 1 }))
      else atPoint (.w2 l v) rest { (look l s).2 with count := s.count + 1 } := by
  have hrun : tick (atPoint (.w1 l v) rest s) = runPoint (.w1 l v) rest (atPoint (.w1 l v) rest s) := rfl
  have hlevel : (look l (atPoint (.w1 l v) rest s)).1 = (look l s).1 := by cases l <;> rfl
  have hstate : (look l (atPoint (.w1 l v) rest s)).2 =
      { (look l s).2 with ctl := ⟨.w1 l v :: rest, none⟩, done := false } := by
    cases l <;> rfl
  rw [hrun, runPoint]
  simp only [hlevel, hstate, look_count]
  split
  · exact returnResult_started rest 1 _ (waitEnd l v (true, (look l s).2))
  · split
    · exact returnResult_started rest 0 _ (waitEnd l v (false, { (look l s).2 with count := s.count + 1 }))
    · rfl

/-- From W1 the loop runs to the end of its polls. -/
theorem poll_runs (l : Line) (v : Level) (rest : List Point) (s : State) (hc : s.count ≤ Config.waitCeiling) :
    Reaches (atPoint (.w1 l v) rest s)
      (handedBack rest (pollFrom l v Config.waitCeiling s.device s).1.toNat
        (waitEnd l v (pollFrom l v Config.waitCeiling s.device s))) := by
  generalize hm : Config.waitCeiling - s.count = m
  induction m generalizing s with
  | zero =>
    refine .tick ?_
    rw [tick_w1, pollFrom_pass l v _ s hc, if_pos (show s.count + 1 > Config.waitCeiling by omega),
      if_pos (show s.count + 1 > Config.waitCeiling by omega)]
    split <;> exact .refl
  | succ m ih =>
    refine .tick ?_
    rw [tick_w1, pollFrom_pass l v _ s hc, if_neg (show ¬ s.count + 1 > Config.waitCeiling by omega),
      if_neg (show ¬ s.count + 1 > Config.waitCeiling by omega)]
    split
    · exact .refl
    · exact .tick (ih { (look l s).2 with count := s.count + 1 } (by show s.count + 1 ≤ _; omega)
        (by show _ - (s.count + 1) = _; omega))

/-- A wait that is called hands back whether it has succeeded. -/
theorem wait_runs (l : Line) (v : Level) :
    RunsAs (.w0 l v) fun s =>
      ((waitForLevel l v Config.waitCeiling s).1.toNat, (waitForLevel l v Config.waitCeiling s).2) := fun rest s =>
  .tick (poll_runs l v rest { s with count := 0 } (Nat.zero_le _))

/-! ## Calls -/

/-- A point that calls an operation has its value handed back. -/
theorem call_runs {p c : Point} {f : State → Int × State} (hf : RunsAs c f) {rest : List Point} {s : State}
    (hcall : tick (atPoint p rest s) = atPoint c (p :: rest) s) :
    Reaches (atPoint p rest s) (handedBack (p :: rest) (f s).1 (f s).2) :=
  .tick (hcall ▸ hf (p :: rest) s)

/-- A point that calls a wait goes on when it succeeds, else aborts with the code of the call site. -/
theorem waitCall_runs {p : Point} {l : Line} {v : Level} {code : Nat → Int} {rest : List Point} {next : State → State}
    (s : State) (hcall : tick (atPoint p rest s) = atPoint (.w0 l v) (p :: rest) s)
    (hok : ∀ t, tick (handedBack (p :: rest) 1 t) = next t)
    (hfail : ∀ t, tick (handedBack (p :: rest) 0 t) = handedBack rest (code t.i) t) :
    Reaches (atPoint p rest s) ((waitOr l v (code s.i) s).land rest next) := by
  refine (call_runs (wait_runs l v) hcall).trans (Reaches.of_tick ?_)
  rw [waitOr_eq]
  cases (waitForLevel l v Config.waitCeiling s).1 with
  | true => exact hok _
  | false =>
    rw [← waitForLevel_i l v Config.waitCeiling s]
    exact hfail _

/-! ## Loops over slots -/

/-- Where a loop over `N` slots stands after a pass: at its first point `p` with the next slot's number, or at the point
`q` after the loop. -/
def nextSlot (N : Nat) (p q : Point) (rest : List Point) (s : State) : State :=
  if s.i + 1 < N then atPoint p rest { s with i := s.i + 1 } else atPoint q rest s

/-- A loop over the slots `n` to `N - 1`, each pass of which starts at point `p` with its number in `i`, runs to the
point after the loop. -/
theorem loop_runs {body : Nat → State → Progress} {loop : List Nat → State → Progress} {p q : Point} {N : Nat}
    {rest : List Point} (hnil : ∀ s, loop [] s = .going s)
    (hcons : ∀ n ns s, loop (n :: ns) s = (body n s).andThen (loop ns))
    (hset : ∀ n i s, body n { s with i := i } = body n s) (hi : ∀ n s t, body n s = .going t → t.i = n)
    (hpass : ∀ s, Reaches (atPoint p rest s) ((body s.i s).land rest (nextSlot N p q rest)))
    (m n : Nat) (s : State) (hN : n + m + 1 = N) (hs : s.i = n) :
    Reaches (atPoint p rest s) ((loop (List.range' n (m + 1)) s).land rest (atPoint q rest)) := by
  induction m generalizing n s with
  | zero =>
    rw [List.range'_succ, hcons, Progress.land_andThen, ← hs]
    refine (hpass s).land fun t ht => ?_
    have : ¬ t.i + 1 < N := by rw [hi _ _ _ ht]; omega
    rw [nextSlot, if_neg this, List.range'_zero, hnil]
    exact .refl
  | succ m ih =>
    rw [List.range'_succ, hcons, Progress.land_andThen, ← hs]
    refine (hpass s).land fun t ht => ?_
    have hti := hi _ _ _ ht
    have hloop : loop (List.range' (s.i + 1) (m + 1)) t =
        loop (List.range' (s.i + 1) (m + 1)) { t with i := t.i + 1 } := by
      simp only [List.range'_succ, hcons, hset]
    rw [nextSlot, if_pos (by omega), hloop]
    exact ih (s.i + 1) _ (by omega) (by rw [hti])

/-! ## sendByte (R35) -/

theorem waitOr_going_i {l : Line} {v : Level} {code : Int} {s t : State} (h : waitOr l v code s = .going t) :
    t.i = s.i := by
  have := congrArg Progress.state h
  rw [waitOr_state] at this
  exact (congrArg State.i this).symm.trans (waitForLevel_i _ _ _ _)

theorem sendSlot_going_i {n : Nat} {s t : State} (h : sendSlot n s = .going t) : t.i = n := by
  have hstate : (sendSlot n s).state.i = n :=
    Progress.andThen_holds (P := fun t => t.i = n) (by rw [waitOr_state, waitForLevel_i, putSlot_i]) fun t ht => by
      rw [waitOr_state, waitForLevel_i, ht]
  rwa [h] at hstate

theorem putSlot_of_data {s : State} (h : s.i ≤ 7) :
    putSlot s = { driveLine .data (bitOf s.txb s.i) s with par := s.par ^^ bitOf s.txb s.i } := if_pos h

theorem putSlot_of_parity {s : State} (h : s.i = 8) : putSlot s = driveLine .data s.par s :=
  (if_neg (by omega)).trans (if_pos h)

theorem putSlot_of_stop {s : State} (h : 8 < s.i) :
    putSlot s = delayFor Config.tStopSettle (releaseLine .data s) := (if_neg (by omega)).trans (if_neg (by omega))

theorem putSlot_atPoint (p : Point) (rest : List Point) (s : State) :
    putSlot (atPoint p rest s) = atPoint p rest (putSlot s) := by
  rcases Nat.lt_trichotomy s.i 8 with h | h | h
  · have h7 : s.i ≤ 7 := by omega
    rw [putSlot_of_data (s := atPoint p rest s) h7, putSlot_of_data h7]; rfl
  · rw [putSlot_of_parity (s := atPoint p rest s) h, putSlot_of_parity h]; rfl
  · rw [putSlot_of_stop (s := atPoint p rest s) h, putSlot_of_stop h]; rfl

/-- One pass of the bit loop: S9, S10, S11. -/
theorem sendSlot_runs (rest : List Point) (s : State) :
    Reaches (atPoint .s9 rest s)
      ((sendSlot s.i s).land rest (nextSlot Config.nTxSlots .s9 .s12 rest)) := by
  have hput : tick (atPoint .s9 rest s) = atPoint .s10 rest (putSlot s) :=
    congrArg (goto .s10 rest) (putSlot_atPoint _ _ s)
  have hhigh := waitCall_runs (p := .s10) (code := Config.txErrBitHigh) (next := atPoint .s11 rest) (putSlot s)
    rfl (fun _ => rfl) (fun t => returnResult_started rest _ _ t)
  rw [putSlot_i] at hhigh
  refine .tick ?_
  rw [hput, sendSlot, Progress.land_andThen]
  refine hhigh.land fun t ht => ?_
  have hi : t.i = s.i := (waitOr_going_i ht).trans (putSlot_i s)
  rw [← hi]
  exact waitCall_runs t rfl (fun _ => rfl) (fun u => returnResult_started rest _ _ u)

theorem ackCheck_refused {s : State} (h : (sampleLine .data s).1 = true) :
    ackCheck s = .aborted Config.txErrAck (sampleLine .data s).2 := if_pos h

theorem ackCheck_acked {s : State} (h : ¬ (sampleLine .data s).1 = true) :
    ackCheck s = (waitOr .clock true Config.txErrEndClk (sampleLine .data s).2).andThen
      fun t => .going (driveLine .clock false t) := if_neg h

/-- The ack check and the end: S12, S13, S14. -/
theorem ackCheck_runs (rest : List Point) (s : State) :
    Reaches (atPoint .s12 rest s) ((ackCheck s).land rest (handedBack rest Config.txOk)) := by
  by_cases hr : (sampleLine .data s).1 = true
  · have hrun : tick (atPoint .s12 rest s) = abortTo rest Config.txErrAck (sampleLine .data (atPoint .s12 rest s)).2 :=
      if_pos hr
    rw [ackCheck_refused hr]
    exact .of_tick (hrun.trans (returnResult_started rest _ _ (sampleLine .data s).2))
  · have hrun : tick (atPoint .s12 rest s) = atPoint .s13 rest (sampleLine .data s).2 := if_neg hr
    have hwait := waitCall_runs (p := .s13) (code := fun _ => Config.txErrEndClk) (next := atPoint .s14 rest)
      (sampleLine .data s).2 rfl (fun _ => rfl) (fun u => returnResult_started rest _ _ u)
    refine .tick ?_
    rw [hrun, ackCheck_acked hr, Progress.land_andThen]
    exact hwait.land fun t _ => .of_tick (returnResult_started rest _ _ (driveLine .clock false t))

/-- The request-to-send: S0 to S7. -/
theorem requestToSend_runs (b : Byte) (rest : List Point) (s : State) :
    Reaches (atPoint (.s0 b) rest s) (atPoint .s8 rest (requestToSend b s)) := by
  have h0 : ∀ t, tick (atPoint (.s0 b) rest t) = atPoint .s1 rest (releaseLine .data { t with txb := b }) :=
    fun _ => rfl
  have h1 : ∀ t, tick (atPoint .s1 rest t) = atPoint .s2 rest (releaseLine .clock t) := fun _ => rfl
  have h2 : ∀ t, tick (atPoint .s2 rest t) = atPoint .s3 rest (delayFor Config.tIdleSettle t) := fun _ => rfl
  have h3 : ∀ t, tick (atPoint .s3 rest t) = atPoint .s4 rest (driveLine .clock false t) := fun _ => rfl
  have h4 : ∀ t, tick (atPoint .s4 rest t) = atPoint .s5 rest (delayFor Config.tClkHold t) := fun _ => rfl
  have h5 : ∀ t, tick (atPoint .s5 rest t) = atPoint .s6 rest (driveLine .data false t) := fun _ => rfl
  have h6 : ∀ t, tick (atPoint .s6 rest t) = atPoint .s7 rest (delayFor Config.tBitSettle t) := fun _ => rfl
  have h7 : ∀ t, tick (atPoint .s7 rest t) = atPoint .s8 rest (releaseLine .clock t) := fun _ => rfl
  have hrun : tick^[8] (atPoint (.s0 b) rest s) = atPoint .s8 rest (requestToSend b s) := by
    simp only [Function.iterate_succ_apply, Function.iterate_zero_apply, h0, h1, h2, h3, h4, h5, h6, h7, requestToSend]
  exact hrun ▸ .ticks 8 _

theorem sendByte_runs (b : Byte) : RunsAs (.s0 b) (sendByte b) := by
  intro rest s
  have hfirst := waitCall_runs (p := .s8) (code := fun _ => Config.txErrClkFall)
    (next := fun t => atPoint .s9 rest { t with i := 0, par := true }) (requestToSend b s)
    rfl (fun _ => rfl) (fun u => returnResult_started rest _ _ u)
  rw [sendByte, ← Progress.land_toResult, Progress.land_andThen]
  refine (requestToSend_runs b rest s).trans (hfirst.land fun t _ => ?_)
  rw [Progress.land_andThen]
  have hslots := loop_runs (body := sendSlot) (loop := sendSlots) (fun _ => rfl) (fun _ _ _ => rfl) (fun _ _ _ => rfl)
    (fun _ _ _ => sendSlot_going_i) (sendSlot_runs rest) 9 0 { t with i := 0, par := true } rfl rfl
  exact hslots.land fun u _ => ackCheck_runs rest u

/-! ## receiveByte and read (R36, R37) -/

theorem recvSlot_going_i {n : Nat} {s t : State} (h : recvSlot n s = .going t) : t.i = n := by
  have hstate : (recvSlot n s).state.i = n := by
    refine Progress.andThen_holds (P := fun t => t.i = n) (by rw [waitOr_state, waitForLevel_i]) fun t ht => ?_
    refine Progress.andThen_holds (P := fun t => t.i = n) (by rw [waitOr_state, waitForLevel_i, ht]) fun u hu => ?_
    rcases takeSlot_frame (sampleLine .data u).1 (sampleLine .data u).2 with ⟨a, o, hv⟩ | ⟨c, hv⟩ <;>
      · dsimp only; rw [hv]; exact hu
  rwa [h] at hstate

theorem takeSlot_ok {d : Level} {s : State} {v : Byte × Nat} (h : slotVerdict s.i d s.acc s.ones = .ok v) :
    takeSlot d s = .going { s with acc := v.1, ones := v.2 } := by rw [takeSlot, h]

theorem takeSlot_error {d : Level} {s : State} {c : Int} (h : slotVerdict s.i d s.acc s.ones = .error c) :
    takeSlot d s = .aborted c s := by rw [takeSlot, h]

/-- The sample of a slot and its check: V5. -/
theorem tick_v5 (rest : List Point) (s : State) :
    tick (atPoint .v5 rest s) = (takeSlot (sampleLine .data s).1 (sampleLine .data s).2).land rest
      (nextSlot Config.nRxSlots .v3 .v6 rest) := by
  have hrun : tick (atPoint .v5 rest s) = runPoint .v5 rest (atPoint .v5 rest s) := rfl
  rw [hrun, runPoint]
  cases hv : slotVerdict s.i (sampleLine .data s).1 s.acc s.ones with
  | ok v =>
    rw [takeSlot_ok (s := (sampleLine .data s).2) hv,
      takeSlot_ok (d := (sampleLine .data (atPoint .v5 rest s)).1)
        (s := (sampleLine .data (atPoint .v5 rest s)).2) hv]
    rfl
  | error c =>
    rw [takeSlot_error (s := (sampleLine .data s).2) hv,
      takeSlot_error (d := (sampleLine .data (atPoint .v5 rest s)).1)
        (s := (sampleLine .data (atPoint .v5 rest s)).2) hv]
    exact returnResult_started rest c _ (sampleLine .data s).2

/-- One slot of a receive: V3, V4, V5. -/
theorem recvSlot_runs (rest : List Point) (s : State) :
    Reaches (atPoint .v3 rest s)
      ((recvSlot s.i s).land rest (nextSlot Config.nRxSlots .v3 .v6 rest)) := by
  rw [recvSlot, Progress.land_andThen]
  have hlow := waitCall_runs (p := .v3) (code := Config.rxErrClkLow) (next := atPoint .v4 rest) s
    rfl (fun _ => rfl) (fun t => returnResult_started rest _ _ t)
  refine hlow.land fun t ht => ?_
  have hi : t.i = s.i := waitOr_going_i ht
  rw [← hi, Progress.land_andThen]
  have hhigh := waitCall_runs (p := .v4) (code := Config.rxErrClkHigh) (next := atPoint .v5 rest) t
    rfl (fun _ => rfl) (fun t => returnResult_started rest _ _ t)
  exact hhigh.land fun u _ => .of_tick (tick_v5 rest u)

theorem receiveByte_runs : RunsAs .v0 receiveByte := by
  intro rest s
  have hstart : Reaches (atPoint .v0 rest s) (atPoint .v3 rest (receiveStart s)) := .ticks 3 _
  have hslots := loop_runs (body := recvSlot) (loop := recvSlots) (fun _ => rfl) (fun _ _ _ => rfl) (fun _ _ _ => rfl)
    (fun _ _ _ => recvSlot_going_i) (recvSlot_runs rest) 10 0 (receiveStart s) rfl rfl
  rw [receiveByte, ← Progress.land_toResult, Progress.land_andThen]
  refine hstart.trans (hslots.land fun t _ => ?_)
  exact .of_tick (returnResult_started rest _ _ (driveLine .clock false t))

theorem readByte_runs : RunsAs .d0 readByte := fun rest _ =>
  (call_runs receiveByte_runs rfl).trans (Reaches.of_tick (returnResult_started rest _ _ _))

/-! ## writeAndReadAck (R37) -/

theorem tick_a0 (b : Byte) (rest : List Point) (v : Int) (s : State) :
    tick (handedBack (.a0 b :: rest) v s) =
      if v < 0 then handedBack rest Config.wraErrSend s else atPoint .a1 rest s := by
  have hrun : tick (handedBack (.a0 b :: rest) v s) =
    if v < 0 then returnResult rest Config.wraErrSend (handedBack (.a0 b :: rest) v s) else atPoint .a1 rest s := rfl
  exact hrun.trans (by congr 1; exact returnResult_started rest _ _ s)

theorem tick_a1 (rest : List Point) (v : Int) (s : State) :
    tick (handedBack (.a1 :: rest) v s) =
      if v < 0 then handedBack rest Config.wraErrRecv s else handedBack rest (maskByte v) s := by
  have hrun : tick (handedBack (.a1 :: rest) v s) =
    if v < 0 then returnResult rest Config.wraErrRecv (handedBack (.a1 :: rest) v s)
    else returnResult rest (maskByte v) (handedBack (.a1 :: rest) v s) := rfl
  exact hrun.trans (by congr 1 <;> exact returnResult_started rest _ _ s)

theorem writeAndReadAck_runs (b : Byte) : RunsAs (.a0 b) (writeAndReadAck b) := by
  intro rest s
  refine (call_runs (sendByte_runs b) rfl).trans (Reaches.tick ?_)
  rw [tick_a0, writeAndReadAck]
  dsimp only
  split
  · exact .refl
  · refine (call_runs receiveByte_runs rfl).trans (Reaches.tick ?_)
    rw [tick_a1]
    split <;> exact .refl

/-! ## From the ports: a start against a call -/

theorem run_succ (M : Host.Core) {n : Nat} {s t : M.State} (h : M.step s = .next t) : M.run (n + 1) s = M.run n t := by
  rw [Host.Core.run, h]

/-- What the control points reach is what a run of steps answers, nothing arriving on the way. -/
theorem run_of_reaches {s t : State} (h : Reaches s t) (hin : s.inbox = []) :
    ∃ n, Host.Core.run Sys2Proof.core n s = .next t := by
  induction h using Relation.ReflTransGen.head_induction_on with
  | refl => exact ⟨0, rfl⟩
  | @head a b hab _ ih =>
    obtain ⟨n, hn⟩ := ih (by rw [hab, tick_inbox, hin])
    have hstep : step a = .next b := by rw [hab]; exact step_no_input hin
    exact ⟨n + 1, (run_succ Sys2Proof.core hstep).trans hn⟩

/-- A start of an operation whose control points end where its meaning does. -/
theorem start_matches_call {sel : BitVec 4} {arg : Byte} {i : Instr} {p : Point} (hsel : internalCode sel = false)
    (hdec : decode (portWord sel arg) = .ok i) (hp : startPoint i = some p)
    (hruns : ∀ s, s.ctl = .idle → s.done = true →
      ∃ t, exec i s = .next t ∧ t.ctl = .idle ∧ t.done = true ∧ Reaches (atPoint p [] s) t)
    (s : State) (hidle : s.ctl = .idle) :
    ∃ (n : Nat) (t : State), Host.Core.run Sys2Proof.core n { s with inbox := [.start sel arg] } = .next t ∧
      step { s with inbox := [.call sel arg] } = .next t ∧ t.ctl = .idle ∧ t.done = true := by
  have hempty : ∀ x, ({ s with inbox := x } : State).ctl.stack = [] := fun _ => congrArg Control.stack hidle
  have hcall : step { s with inbox := [.call sel arg] } = exec i (accept [] s) := step_call (hempty _) rfl hsel hdec
  have hstart : step { s with inbox := [.start sel arg] } = .next (startAt p [] s) :=
    step_of_fetch_moved (fetch_start_point (hempty _) rfl hsel hdec hp)
  obtain ⟨t, hexec, hctl, hdone, hreach⟩ := hruns (accept [] s) hidle rfl
  obtain ⟨n, hn⟩ := run_of_reaches (s := startAt p [] s) hreach rfl
  exact ⟨n + 1, t, (run_succ Sys2Proof.core hstart).trans hn, hcall.trans hexec, hctl, hdone⟩

/-- The operations that return a value: the caller's own leaves it in `result` and the block idle. -/
theorem RunsAs.answers {p : Point} {f : State → Int × State} (hf : RunsAs p f) {s : State} (hidle : s.ctl = .idle)
    (hdone : s.done = true) (hctl : (f s).2.ctl = s.ctl) (hd : (f s).2.done = s.done) :
    ∃ t, answer (f s) = .next t ∧ t.ctl = .idle ∧ t.done = true ∧ Reaches (atPoint p [] s) t := by
  have hend : handedBack [] (f s).1 (f s).2 = finish (f s).1 (f s).2 := by
    have h1 : (f s).2.ctl = .idle := hctl.trans hidle
    have h2 : (f s).2.done = true := hd.trans hdone
    simp only [handedBack, ← h1, ← h2]
    rfl
  exact ⟨_, rfl, hctl.trans hidle, hd.trans hdone, hend ▸ hf [] s⟩

/-! ## The port words -/

/-- The ports' word bit by bit: `op_sel`, four zeros, `op_arg`, zeros above (log 13). -/
theorem portWord_getLsbD (sel : BitVec 4) (arg : Byte) (i : Nat) :
    (portWord sel arg).bits.getLsbD i =
      if i < 4 then sel.getLsbD i else if i < 8 then false else arg.getLsbD (i - 8) := by
  rw [portWord, encodeOperand, BitVec.getLsbD_append, BitVec.getLsbD_append, BitVec.getLsbD_setWidth]
  by_cases h4 : i < 4
  · rw [if_pos (by omega), if_pos h4, if_pos h4]
  · by_cases h8 : i < 8
    · rw [if_pos h8, if_neg h4, if_neg h4, if_pos h8, BitVec.getLsbD_zero]
    · rw [if_neg h8, if_neg h4, if_neg h8]
      by_cases h16 : i - 8 < 16
      · simp [h16]
      · simp [BitVec.getLsbD_of_ge arg (i - 8) (by omega)]

/-- A field of a word, bit by bit. -/
theorem getElem_field (w : BitVec 24) (lo n i : Nat) (hi : i < n) : (field w lo n)[i] = w.getLsbD (lo + i) := by
  simp [field]

@[simp] theorem portWord_sel (sel : BitVec 4) (arg : Byte) : field (portWord sel arg).bits 0 4 = sel := by
  ext i hi
  rw [getElem_field, portWord_getLsbD, Nat.zero_add, if_pos hi, BitVec.getLsbD_eq_getElem]

@[simp] theorem portWord_pad (sel : BitVec 4) (arg : Byte) : field (portWord sel arg).bits 4 4 = 0 := by
  ext i hi
  rw [getElem_field, portWord_getLsbD, if_neg (by omega), if_pos (by omega), BitVec.ofNat_eq_ofNat, BitVec.getElem_zero]

@[simp] theorem portWord_arg (sel : BitVec 4) (arg : Byte) : field (portWord sel arg).bits 8 8 = arg := by
  ext i hi
  rw [getElem_field, portWord_getLsbD, if_neg (by omega), if_neg (by omega), Nat.add_sub_cancel_left,
    BitVec.getLsbD_eq_getElem]

@[simp] theorem portWord_high (sel : BitVec 4) (arg : Byte) : field (portWord sel arg).bits 16 8 = 0 := by
  ext i hi
  rw [getElem_field, portWord_getLsbD, if_neg (by omega), if_neg (by omega), BitVec.getLsbD_of_ge _ _ (by omega),
    BitVec.ofNat_eq_ofNat, BitVec.getElem_zero]
/-- What the ports' word decodes to: `op_sel` chooses, `op_arg` is the operand. -/
theorem decode_portWord (sel : BitVec 4) (arg : Byte) :
    decode (portWord sel arg) = decodeOp (portWord sel arg).bits := rfl

theorem decode_portWord_send (arg : Byte) : decode (portWord 0x8 arg) = .ok (.opSend arg) := by
  simp [decode_portWord, decodeOp, decodeByteOperand]

theorem decode_portWord_recv (arg : Byte) : decode (portWord 0x9 arg) = .ok .opRecv := by
  simp [decode_portWord, decodeOp, decodeBare]

theorem decode_portWord_read (arg : Byte) : decode (portWord 0xB arg) = .ok .opRead := by
  simp [decode_portWord, decodeOp, decodeBare]

theorem decode_portWord_wra (arg : Byte) : decode (portWord 0xA arg) = .ok (.opWra arg) := by
  simp [decode_portWord, decodeOp, decodeByteOperand]

theorem decode_portWord_begin (arg : Byte) : decode (portWord 0x1 arg) = .ok .opBegin := by
  simp [decode_portWord, decodeOp, decodeBare]

theorem decode_portWord_update (arg : Byte) : decode (portWord 0x2 arg) = .ok .opUpdate := by
  simp [decode_portWord, decodeOp, decodeBare]

theorem decode_portWord_setRes (arg : Byte) : decode (portWord 0x3 arg) = .ok (.opSetRes arg) := by
  simp [decode_portWord, decodeOp, decodeByteOperand]

theorem decode_portWord_setRate (arg : Byte) : decode (portWord 0x4 arg) = .ok (.opSetRate arg) := by
  simp [decode_portWord, decodeOp, decodeByteOperand]

/-! ## SEND, RECV, READ, WRA -/

/-- Settles O58: every point's tick is the pseudocode's next part (`sendByte_runs`, `receiveByte_runs`,
`readByte_runs`). -/
theorem controlPointsOfTransfersMatchTheirPseudocode : Obligations.ControlPointsOfTransfersMatchTheirPseudocode := by
  intro s sel arg hsel hidle
  simp only [List.mem_cons, List.not_mem_nil, or_false] at hsel
  rcases hsel with rfl | rfl | rfl
  · refine start_matches_call rfl (decode_portWord_send arg) rfl (fun u hu hd => ?_) s hidle
    obtain ⟨h, -⟩ := sendByte_same arg u
    exact (sendByte_runs arg).answers hu hd h.ctl h.done
  · refine start_matches_call rfl (decode_portWord_recv arg) rfl (fun u hu hd => ?_) s hidle
    obtain ⟨h, -⟩ := receiveByte_same u
    exact receiveByte_runs.answers hu hd h.ctl h.done
  · refine start_matches_call rfl (decode_portWord_read arg) rfl (fun u hu hd => ?_) s hidle
    obtain ⟨h, -⟩ := receiveByte_same u
    exact readByte_runs.answers hu hd h.ctl h.done

/-- Settles O59: the send and the receive run inside A0 and A1 (`writeAndReadAck_runs`). -/
theorem controlPointsOfExchangeMatchItsPseudocode : Obligations.ControlPointsOfExchangeMatchItsPseudocode := by
  intro s sel arg hsel hidle
  obtain rfl := List.mem_singleton.mp hsel
  refine start_matches_call rfl (decode_portWord_wra arg) rfl (fun u hu hd => ?_) s hidle
  obtain ⟨h, -⟩ := writeAndReadAck_same arg u
  exact (writeAndReadAck_runs arg).answers hu hd h.ctl h.done

end Sys2Proof.Machine
end

section
/-! PROOFS. The control points of `update` and `begin` against their pseudocode (10_state.md R38, 42_device_session.md
R135, R143). -/

namespace Sys2Proof.Machine

/-! ## update -/

/-- Point U1 takes the value of a report read: it is stored under `k`, and the next read or the decode follows. -/
theorem tick_u1 (rest : List Point) (v : Int) (s : State) :
    tick (handedBack (.u1 :: rest) v s) =
      if s.k + 1 < Config.nReportFetched then atPoint .u1 rest { storeReport s.k v s with k := s.k + 1 }
      else atPoint .u2 rest (storeReport s.k v s) := by
  have hstore : storeReport s.k v (handedBack (.u1 :: rest) v s) =
      { storeReport s.k v s with ctl := ⟨.u1 :: rest, some v⟩, done := false } := by
    unfold storeReport; split <;> rfl
  have hrun : tick (handedBack (.u1 :: rest) v s) =
    if (storeReport s.k v (handedBack (.u1 :: rest) v s)).k + 1 < Config.nReportFetched then
      goto .u1 rest { storeReport s.k v (handedBack (.u1 :: rest) v s) with
        k := (storeReport s.k v (handedBack (.u1 :: rest) v s)).k + 1 }
    else goto .u2 rest (storeReport s.k v (handedBack (.u1 :: rest) v s)) := rfl
  have hk := storeReport_k s.k v s
  rw [hrun, hstore]
  generalize storeReport s.k v s = t at hk ⊢
  rw [← hk]
  rfl

/-- A report read: point U1, the read it calls, and the storing of its value. -/
theorem reportRead_runs (n : Nat) (rest : List Point) (s : State) :
    Reaches (atPoint .u1 rest { s with k := n })
      (if n + 1 < Config.nReportFetched then atPoint .u1 rest { reportRead n s with k := n + 1 }
      else atPoint .u2 rest (reportRead n s)) := by
  have hread : (readByte { s with k := n }).2.k = n := (receiveByte_same { s with k := n }).1.k
  refine (call_runs readByte_runs rfl).trans (Reaches.of_tick ?_)
  rw [tick_u1, hread, reportRead]

theorem reportReads_runs (rest : List Point) (s : State) :
    Reaches (atPoint .u1 rest { s with k := 0 }) (atPoint .u2 rest (reportReads reportIndexes s)) := by
  have h0 := reportRead_runs 0 rest s
  have h1 := reportRead_runs 1 rest (reportRead 0 s)
  have h2 := reportRead_runs 2 rest (reportRead 1 (reportRead 0 s))
  rw [if_pos (by decide)] at h0
  rw [if_pos (by decide)] at h1
  rw [if_neg (by decide)] at h2
  exact h0.trans (h1.trans h2)

theorem tick_u0 (rest : List Point) (v : Int) (s : State) :
    tick (handedBack (.u0 :: rest) v s) = atPoint .u1 rest { s with k := 0 } := rfl

theorem tick_u2 (rest : List Point) (s : State) :
    tick (atPoint .u2 rest s) = returnTo rest 0 { decodeReport s with done := false } := by
  cases rest <;> rfl

/-- `update` run point by point; inside `begin` it hands its end to B4, as the caller's own it ends the request. -/
theorem update_runs (rest : List Point) (s : State) :
    Reaches (atPoint .u0 rest s) (returnTo rest 0 { update s with done := false }) := by
  refine (call_runs (writeAndReadAck_runs Config.cmdReadData) rfl).trans (Reaches.tick ?_)
  rw [tick_u0, update, ← tick_u2]
  exact (reportReads_runs rest _).tail rfl

/-! ## begin -/

/-- The payload reads: point B2 until `k` has reached the payload's length. -/
theorem payloadReads_runs (n : Nat) (rest : List Point) (s : State) (hk : s.k + n = payloadAt s.seq) :
    Reaches (atPoint .b2 rest s) (atPoint .b3 rest (payloadReads n s)) := by
  have hb2 : tick (atPoint .b2 rest s) =
    if s.k < payloadAt s.seq then atPoint .d0 (.b2 :: rest) s else atPoint .b3 rest s := rfl
  induction n generalizing s with
  | zero => exact .of_tick (hb2.trans (if_neg (by omega)))
  | succ n ih =>
    obtain ⟨hsame, -⟩ := receiveByte_same s
    have hcall := call_runs (p := .b2) readByte_runs (hb2.trans (if_pos (by omega)))
    refine hcall.trans (Reaches.tick (ih { (readByte s).2 with k := (readByte s).2.k + 1 } ?_ rfl))
    show (receiveByte s).2.k + 1 + n = payloadAt (receiveByte s).2.seq
    rw [hsame.k, hsame.seq]
    omega

theorem tick_b1 (rest : List Point) (v : Int) (s : State) :
    tick (handedBack (.b1 :: rest) v s) =
      if isAck v then atPoint .b2 rest { s with k := 0 } else handedBack rest 0 s := by
  have hrun : tick (handedBack (.b1 :: rest) v s) =
    if isAck v then atPoint .b2 rest { s with k := 0 } else returnResult rest 0 (handedBack (.b1 :: rest) v s) := rfl
  exact hrun.trans (by congr 1; exact returnResult_started rest _ _ s)

/-- One exchange of the list: from B1 to B3 when it is acknowledged, else `begin` hands back `false`. -/
theorem exchange_runs {n : Nat} (rest : List Point) (s : State) (hs : s.seq = n) :
    Reaches (atPoint .b1 rest s)
      (if isAck (exchange (initAt n) (payloadAt n) s).1 then
        atPoint .b3 rest (exchange (initAt n) (payloadAt n) s).2
      else handedBack rest 0 (exchange (initAt n) (payloadAt n) s).2) := by
  subst hs
  refine (call_runs (writeAndReadAck_runs (initAt s.seq)) rfl).trans (Reaches.tick ?_)
  obtain ⟨hsame, -⟩ := writeAndReadAck_same (initAt s.seq) s
  rw [tick_b1, exchange_value, exchange]
  dsimp only
  split
  · refine payloadReads_runs _ rest _ ?_
    show 0 + payloadAt s.seq = payloadAt (writeAndReadAck (initAt s.seq) s).2.seq
    rw [hsame.seq, Nat.zero_add]
  · exact .refl

theorem exchangeKeeps_seq (n : Nat) : ExchangeKeeps fun s => s.seq = n where
  send b s h := (sendByte_same b s).1.seq.trans h
  receive s h := (receiveByte_same s).1.seq.trans h
  setK _ _ h := h

theorem tick_b3 (rest : List Point) (s : State) :
    tick (atPoint .b3 rest s) =
      if s.seq + 1 < Config.initLen then atPoint .b1 rest { s with seq := s.seq + 1 } else atPoint .b4 rest s := rfl

theorem tick_b4 (rest : List Point) (v : Int) (s : State) :
    tick (handedBack (.b4 :: rest) v s) = handedBack rest 1 s := returnResult_started rest 1 _ s

theorem returnTo_started (p : Point) (below : List Point) (v : Int) (s : State) :
    returnTo (p :: below) v { s with done := false } = handedBack (p :: below) v s := rfl

/-- The end of `begin`: B4 calls `update` and hands back `true`. -/
theorem beginEnd_runs (rest : List Point) (s : State) :
    Reaches (atPoint .b4 rest s) (handedBack rest 1 (update s)) := by
  have hcall : tick (atPoint .b4 rest s) = atPoint .u0 (.b4 :: rest) s := rfl
  have hupdate := update_runs (.b4 :: rest) s
  rw [returnTo_started] at hupdate
  refine .tick ?_
  rw [hcall, ← tick_b4 rest 0]
  exact hupdate.tail rfl

/-- An entry of the list sets `seq` itself. -/
theorem beginFrom_setSeq (n m : Nat) (ns : List Nat) (s : State) :
    beginFrom (n :: ns) { s with seq := m } = beginFrom (n :: ns) s := by
  rw [beginFrom, beginFrom]

/-- One entry of the list: where B3 runs as the entries after it, B1 runs as the list from this entry on. -/
theorem beginEntry_runs {n : Nat} {ns : List Nat} {rest : List Point}
    (hafter : ∀ t, t.seq = n → Reaches (atPoint .b3 rest t) (handedBack rest (beginFrom ns t).1 (beginFrom ns t).2))
    (s : State) (hs : s.seq = n) :
    Reaches (atPoint .b1 rest s) (handedBack rest (beginFrom (n :: ns) s).1 (beginFrom (n :: ns) s).2) := by
  have hx := exchange_runs rest s hs
  have hseq := (exchangeKeeps_seq n).exchange (initAt n) (payloadAt n) s hs
  have hset : { s with seq := n } = s := by rw [← hs]
  rw [beginFrom, hset]
  generalize exchange (initAt n) (payloadAt n) s = r at hx hseq ⊢
  cases hack : isAck r.1 with
  | true => rw [hack, if_pos rfl] at hx; exact hx.trans (hafter r.2 hseq)
  | false => rw [hack, if_neg Bool.false_ne_true] at hx; exact hx

/-- The list from an entry to the last, then `update`: B1 to B4. -/
theorem beginFrom_runs (m n : Nat) (rest : List Point) (s : State) (hm : n + m + 1 = Config.initLen) (hs : s.seq = n) :
    Reaches (atPoint .b1 rest s)
      (handedBack rest (beginFrom (List.range' n (m + 1)) s).1 (beginFrom (List.range' n (m + 1)) s).2) := by
  induction m generalizing n s with
  | zero =>
    refine beginEntry_runs (fun t ht => .tick ?_) s hs
    rw [tick_b3, if_neg (by omega)]
    exact beginEnd_runs rest t
  | succ m ih =>
    refine beginEntry_runs (fun t ht => .tick ?_) s hs
    rw [tick_b3, if_pos (by omega), List.range'_succ, ← beginFrom_setSeq (n + 1) (t.seq + 1), ← List.range'_succ]
    exact ih (n + 1) _ (by omega) (by rw [ht])

theorem beginSession_runs : RunsAs .b0 beginSession := fun rest s =>
  .tick (beginFrom_runs 6 0 rest { s with seq := 0 } rfl rfl)

/-! ## BEGIN, UPDATE and the setters -/

theorem update_runs_idle {s : State} (hidle : s.ctl = .idle) (hdone : s.done = true) :
    Reaches (atPoint .u0 [] s) (update s) := by
  have h := (instrKeeps_control s).update s (.refl s)
  have hctl : (update s).ctl = .idle := h.ctl.trans hidle
  have hd : (update s).done = true := h.done.trans hdone
  have hend : returnTo [] 0 { update s with done := false } = update s := by
    simp only [returnTo, ← hctl, ← hd]
  exact hend ▸ update_runs [] s

/-- A start of an operation without control points is the same step as its call. -/
theorem start_without_points {sel : BitVec 4} {arg : Byte} {i : Instr} (hsel : internalCode sel = false)
    (hdec : decode (portWord sel arg) = .ok i) (hp : startPoint i = none) (hexec : ∀ s, exec i s = .next s)
    (s : State) (hidle : s.ctl = .idle) :
    ∃ (n : Nat) (t : State), Host.Core.run Sys2Proof.core n { s with inbox := [.start sel arg] } = .next t ∧
      step { s with inbox := [.call sel arg] } = .next t ∧ t.ctl = .idle ∧ t.done = true := by
  have hempty : ∀ x, ({ s with inbox := x } : State).ctl.stack = [] := fun _ => congrArg Control.stack hidle
  have hcall : step { s with inbox := [.call sel arg] } = .next (accept [] s) :=
    (step_call (hempty _) rfl hsel hdec).trans (hexec _)
  have hstart : step { s with inbox := [.start sel arg] } = .next (accept [] s) :=
    (step_of_fetch_run (fetch_start_exec (hempty _) rfl hsel hdec hp)).trans (hexec _)
  exact ⟨1, accept [] s, run_succ Sys2Proof.core hstart, hcall, hidle, rfl⟩

/-- Settles O60: `update_runs` and `beginSession_runs`; a setter has no control point and runs when it is started. -/
theorem controlPointsOfSessionMatchTheirPseudocode : Obligations.ControlPointsOfSessionMatchTheirPseudocode := by
  intro s sel arg hsel hidle
  simp only [List.mem_cons, List.not_mem_nil, or_false] at hsel
  rcases hsel with rfl | rfl | rfl | rfl
  · refine start_matches_call rfl (decode_portWord_begin arg) rfl (fun u hu hd => ?_) s hidle
    have h := (instrKeeps_control u).beginSession u (.refl u)
    exact beginSession_runs.answers hu hd h.ctl h.done
  · refine start_matches_call rfl (decode_portWord_update arg) rfl (fun u hu hd => ?_) s hidle
    have h := (instrKeeps_control u).update u (.refl u)
    exact ⟨_, rfl, h.ctl.trans hu, h.done.trans hd, update_runs_idle hu hd⟩
  · exact start_without_points rfl (decode_portWord_setRes arg) rfl (fun _ => rfl) s hidle
  · exact start_without_points rfl (decode_portWord_setRate arg) rfl (fun _ => rfl) s hidle

end Sys2Proof.Machine
end

section
/-! PROOFS. Requests to a block that has an operation active (20_memory.md R62, 92_eei_decisions.md D1, D18). -/

namespace Sys2Proof.Machine

theorem busy_active {s : State} (h : s.ctl.stack ≠ []) : busy s = true := by
  simpa [busy] using h

section
variable {s : State} (hbusy : busy s = true)
include hbusy

/-! `op_busy` is the first thing each kind of request is checked against: no code and no word is looked at before it. -/

theorem fetchCall_busy (sel : BitVec 4) (arg : Byte) (rest : List Input) :
    fetchCall sel arg rest s = .turnedAway .busy := if_pos hbusy

theorem fetchStart_busy (sel : BitVec 4) (arg : Byte) (rest : List Input) :
    fetchStart sel arg rest s = .turnedAway .busy := if_pos hbusy

theorem fetchIssue_busy (w : RawWord) (rest : List Input) : fetchIssue w rest s = .turnedAway .busy := if_pos hbusy

theorem fetchTransfer_busy (w : RawWord) (rest : List Input) : fetchTransfer w rest s = .turnedAway .busy := if_pos hbusy

end

/-- Settles O4: an active operation is `op_busy` (`busy_active`), and each kind of request is turned away on it. -/
theorem busyBlockRefusesEveryStart : Obligations.BusyBlockRefusesEveryStart := by
  intro s rest hactive
  have hbusy : busy s = true := busy_active hactive
  refine ⟨fun sel arg h => ?call, fun sel arg h => ?start, fun w h => ?issue, fun w h => ?transfer⟩ <;>
    refine step_of_fetch_turnedAway ?_ <;> rw [fetch, h]
  case call => exact fetchCall_busy hbusy sel arg rest
  case start => exact fetchStart_busy hbusy sel arg rest
  case issue => exact fetchIssue_busy hbusy w rest
  case transfer => exact fetchTransfer_busy hbusy w rest

end Sys2Proof.Machine
end

section
/-! PROOFS. The encoder and the decoder against each other (30_encoding.md sections 1 and 3; log 13). -/

namespace Sys2Proof

open Machine

/-! ## Fields of a word -/

/-- Two fields that meet are one. -/
theorem field_append {w : BitVec 24} {hi lo m n : Nat} (h : hi = lo + n) :
    field w hi m ++ field w lo n = field w lo (m + n) := BitVec.extractLsb'_append_extractLsb'_eq_extractLsb' h

/-- One bit as a field. -/
theorem ofBool_getLsbD (w : BitVec 24) (i : Nat) : BitVec.ofBool (w.getLsbD i) = field w i 1 := by
  ext j hj
  obtain rfl : j = 0 := by omega
  rw [getElem_field, Nat.add_zero]
  simp

/-- Where nothing stands above it, a field from bit 0 up is the whole word. -/
theorem setWidth_field {w : BitVec 24} {n m : Nat} (hw : m + n = 24) (h : field w n m = 0) :
    (field w 0 n).setWidth 24 = w := by
  refine BitVec.eq_of_getLsbD_eq fun i hi => ?_
  rw [BitVec.getLsbD_setWidth, field, BitVec.getLsbD_extractLsb', Nat.zero_add]
  by_cases hin : i < n
  · simp [hi, hin]
  · have hbit : (field w n m)[i - n]'(by omega) = false := by rw [h]; simp
    rw [getElem_field, Nat.add_sub_cancel' (by omega)] at hbit
    simp [hin, hbit]

/-- The top field of a zero-extended vector is 0. -/
theorem field_setWidth_above {m : Nat} (x : BitVec m) {lo n : Nat} (h : m ≤ lo) : field (x.setWidth 24) lo n = 0 := by
  ext i hi
  rw [getElem_field, BitVec.getLsbD_setWidth, BitVec.getLsbD_of_ge x _ (by omega), Bool.and_false]
  simp

/-- A zero-extended vector stands in the field of its own width. -/
theorem field_setWidth_self {m : Nat} (x : BitVec m) (h : m ≤ 24) : field (x.setWidth 24) 0 m = x :=
  (BitVec.extractLsb'_setWidth_of_le (by omega)).trans BitVec.extractLsb'_eq_self

/-! ## Requests -/

theorem encodeOperand_sel (sel : BitVec 4) (x : BitVec 16) : field (encodeOperand sel x).bits 0 4 = sel :=
  (BitVec.extractLsb'_append_eq_of_add_le (by omega)).trans BitVec.extractLsb'_append_eq_right

theorem encodeOperand_pad (sel : BitVec 4) (x : BitVec 16) : field (encodeOperand sel x).bits 4 4 = 0 :=
  (BitVec.extractLsb'_append_eq_of_add_le (by omega)).trans BitVec.extractLsb'_append_eq_left

theorem encodeOperand_operand (sel : BitVec 4) (x : BitVec 16) : field (encodeOperand sel x).bits 8 16 = x :=
  BitVec.extractLsb'_append_eq_left

/-- A request word is the encoding of its code and its operand. -/
theorem encodeOperand_field {w : BitVec 24} (h : field w 4 4 = 0) :
    encodeOperand (field w 0 4) (field w 8 16) = ⟨.opSel, w⟩ := by
  rw [encodeOperand, ← BitVec.ofNat_eq_ofNat, ← h, field_append (show 4 = 0 + 4 from rfl),
    field_append (show 8 = 0 + (4 + 4) from rfl)]
  exact congrArg _ BitVec.extractLsb'_eq_self

/-- A request without an operand is the ports' word with `op_arg` 0. -/
theorem encodeBare_eq_portWord (sel : BitVec 4) : encodeBare sel = portWord sel 0 := by
  refine congrArg (RawWord.mk .opSel) (BitVec.eq_of_getLsbD_eq fun i hi => ?_)
  refine Eq.trans ?_ (portWord_getLsbD sel 0 i).symm
  rw [BitVec.getLsbD_setWidth]
  by_cases h : i < 4
  · simp [h, hi]
  · simp [h, BitVec.getLsbD_of_ge sel i (by omega)]

/-! ## Frames -/

/-- The slots of a word, put together again. -/
theorem encodeFrame11_field (w : BitVec 24) :
    encodeFrame11 (w.getLsbD 0) (field w 1 8) (w.getLsbD 9) (w.getLsbD 10) = field w 0 11 := by
  simp only [encodeFrame11, ofBool_getLsbD]
  rw [field_append (show 1 = 0 + 1 from rfl), field_append (show 9 = 0 + (8 + 1) from rfl),
    field_append (show 10 = 0 + (1 + (8 + 1)) from rfl)]

/-- A word whose low 11 bits are a frame has the frame's slots. -/
theorem slots_of_frame {w : BitVec 24} {start parity stop : Level} {data : Byte}
    (h : field w 0 11 = encodeFrame11 start data parity stop) :
    w.getLsbD 0 = start ∧ field w 1 8 = data ∧ w.getLsbD 9 = parity ∧ w.getLsbD 10 = stop := by
  have hslot : ∀ i, i < 11 → w.getLsbD i = (encodeFrame11 start data parity stop).getLsbD i := fun i hi => by
    rw [← h, field, BitVec.getLsbD_extractLsb', Nat.zero_add]; simp [hi]
  simp only [encodeFrame11, BitVec.getLsbD_append] at hslot
  refine ⟨by simpa using hslot 0, ?_, by simpa using hslot 9, by simpa using hslot 10⟩
  ext i hi
  rw [getElem_field, hslot _ (by omega)]
  simp [show 1 + i < 9 by omega, show 1 + i < 10 by omega, hi]

/-! ## Decoding an encoding -/

/-- The command bytes of R85 are pairwise distinct: each is looked up as its own row. -/
theorem decode_encode_command {i : Instr} (h : i ∈ commandTable.map Prod.snd) : decode (encode i) = .ok i := by
  revert i
  decide

theorem decode_encode_frameD2H (start : Level) (data : Byte) (parity stop : Level) :
    decode (encode (.frameD2H start data parity stop)) = .ok (.frameD2H start data parity stop) := by
  show decodeFrame11 ((encodeFrame11 start data parity stop).setWidth 24) = _
  obtain ⟨h0, hd, h9, h10⟩ := slots_of_frame (field_setWidth_self (encodeFrame11 start data parity stop) (by omega))
  rw [decodeFrame11, field_setWidth_above _ (by omega), if_neg (by simp), h0, hd, h9, h10]

theorem decode_encode_frameH2D (data : Byte) (ack : Level) :
    decode (encode (.frameH2D data ack)) = .ok (.frameH2D data ack) := by
  show decodeFrame12 ((BitVec.ofBool ack ++ encodeFrame11 false data (oddParity data) true).setWidth 24) = _
  have hlow : field ((BitVec.ofBool ack ++ encodeFrame11 false data (oddParity data) true).setWidth 24) 0 11 =
      encodeFrame11 false data (oddParity data) true :=
    (BitVec.extractLsb'_setWidth_of_le (by omega)).trans BitVec.extractLsb'_append_eq_right
  obtain ⟨h0, hd, h9, h10⟩ := slots_of_frame hlow
  rw [decodeFrame12, field_setWidth_above _ (by omega), if_neg (by simp), h0, hd, h9, h10, if_pos ⟨rfl, rfl, rfl⟩,
    BitVec.getLsbD_setWidth, BitVec.getLsbD_append]
  simp

theorem decode_encode_delay {n : Nat} (h : n < 2 ^ 16) : decode (encode (.opDelay n)) = .ok (.opDelay n) := by
  show decodeOp (encodeOperand 0x5 (BitVec.ofNat 16 n)).bits = _
  rw [decodeOp, encodeOperand_pad, encodeOperand_sel, encodeOperand_operand, if_neg (by simp)]
  simpa using h

theorem decode_encode_bare {i : Instr} (h : i ∈ bareRequests) : decode (encode i) = .ok i := by
  revert i
  decide

theorem decodeReportByte_byte (make : Byte → Instr) (b : Byte) :
    decodeReportByte make (b.setWidth 24) = .ok (make b) := by
  rw [decodeReportByte, field_setWidth_above b (by omega), field_setWidth_self b (by omega), if_neg (by simp)]

/-- Settles O48: a word's fields are what the encoder wrote there, row by row; the port words are read back by
`decode_portWord`. -/
theorem decodeReadsBackEveryEncoding : Obligations.DecodeReadsBackEveryEncoding := by
  intro i hwf
  cases i with
  | cmdReset | cmdResend | cmdSetDefaults | cmdDisableDataReporting | cmdEnableDataReporting | cmdSetSampleRate
  | cmdGetDeviceId | cmdSetRemoteMode | cmdSetWrapMode | cmdResetWrapMode | cmdReadData | cmdSetStreamMode
  | cmdStatusRequest | cmdSetResolution => exact decode_encode_command (by decide)
  | rspAck => decide
  | frameD2H start data parity stop => exact decode_encode_frameD2H _ _ _ _
  | frameH2D data ack => exact decode_encode_frameH2D _ _
  | reportFlags b => exact decodeReportByte_byte .reportFlags b
  | reportX b => exact decodeReportByte_byte .reportX b
  | reportY b => exact decodeReportByte_byte .reportY b
  | reportZ b => exact decodeReportByte_byte .reportZ b
  | opBegin | opUpdate | opRecv | opRead | reserved0 | reserved6 | reserved7 => exact decode_encode_bare (by decide)
  | opSetRes arg => exact decode_portWord_setRes arg
  | opSetRate arg => exact decode_portWord_setRate arg
  | opDelay n => exact decode_encode_delay (of_decide_eq_true hwf)
  | opSend b => exact decode_portWord_send b
  | opWra b => exact decode_portWord_wra b
  | opRelease l => cases l <;> decide
  | opDrive l v => cases l <;> cases v <;> decide
  | opRdlvl l => cases l <;> decide
  | opWait l v => cases l <;> cases v <;> decide

/-! ## Encoding what has been decoded -/

/-- What a word that decodes to `i` says of it: its own word, up to `op_arg` in a request without an operand. -/
structure StandsFor (w : RawWord) (i : Instr) : Prop where
  wellFormed : i.wellFormed = true
  own : i ∉ bareRequests → encode i = w
  bare : i ∈ bareRequests → w.format = .opSel ∧ (encode i).format = .opSel ∧ field w.bits 16 8 = 0 ∧
    field (encode i).bits 16 8 = 0 ∧ field (encode i).bits 0 8 = field w.bits 0 8

/-- Every instruction but a request without an operand stands in one word. -/
theorem StandsFor.of_encode {w : RawWord} {i : Instr} (hwf : i.wellFormed = true) (hbare : i ∉ bareRequests)
    (henc : encode i = w) : StandsFor w i := ⟨hwf, fun _ => henc, fun h => absurd h hbare⟩

/-- A check that answers an error or goes on has gone on where the outcome is an instruction. -/
theorem guard_ok {c : Prop} [Decidable c] {e : DecodeError} {x : Except DecodeError Instr} {i : Instr} :
    (if c then .error e else x) = .ok i ↔ ¬ c ∧ x = .ok i := by
  split <;> simp [*]

/-- A word whose high bits are 0 is the one-byte word of its low byte. -/
theorem encodeByte_field {w : BitVec 24} (f : Format) (h : field w 8 16 = 0) : encodeByte f (field w 0 8) = ⟨f, w⟩ :=
  congrArg (RawWord.mk f) (setWidth_field rfl h)

theorem commandTable_encodes : ∀ p ∈ commandTable, encode p.2 = encodeByte .commandByte p.1 ∧
    p.2.wellFormed = true ∧ p.2 ∉ bareRequests := by decide

theorem decodeCommand_standsFor {w : BitVec 24} {i : Instr} (h : decodeCommand w = .ok i) :
    StandsFor ⟨.commandByte, w⟩ i := by
  obtain ⟨hhigh, hlook⟩ := guard_ok.mp h
  cases hl : commandTable.lookup (field w 0 8) with
  | none => rw [hl] at hlook; cases hlook
  | some j =>
    rw [hl] at hlook
    cases hlook
    obtain ⟨l₁, l₂, htable, -⟩ := List.lookup_eq_some_iff.mp hl
    obtain ⟨henc, hwf, hbare⟩ := commandTable_encodes (field w 0 8, i) (by rw [htable]; simp)
    exact .of_encode hwf hbare (henc.trans (encodeByte_field _ (not_not.mp hhigh)))

theorem decodeResponse_standsFor {w : BitVec 24} {i : Instr} (h : decodeResponse w = .ok i) :
    StandsFor ⟨.responseByte, w⟩ i := by
  obtain ⟨hhigh, hcode⟩ := guard_ok.mp h
  split at hcode
  · next hack =>
    cases hcode
    refine .of_encode rfl (by decide) ?_
    rw [encode, ← hack]
    exact encodeByte_field _ (not_not.mp hhigh)
  · cases hcode

theorem decodeReportByte_standsFor {make : Byte → Instr} {f : Format} {w : BitVec 24} {i : Instr}
    (hwf : ∀ b, (make b).wellFormed = true) (hbare : ∀ b, make b ∉ bareRequests)
    (henc : ∀ b, encode (make b) = encodeByte f b) (h : decodeReportByte make w = .ok i) : StandsFor ⟨f, w⟩ i := by
  obtain ⟨hhigh, hi⟩ := guard_ok.mp h
  cases hi
  exact .of_encode (hwf _) (hbare _) ((henc _).trans (encodeByte_field f (not_not.mp hhigh)))

theorem decodeFrame11_standsFor {w : BitVec 24} {i : Instr} (h : decodeFrame11 w = .ok i) :
    StandsFor ⟨.wireFrame11, w⟩ i := by
  obtain ⟨hhigh, hi⟩ := guard_ok.mp h
  cases hi
  refine .of_encode rfl (by simp [bareRequests]) ?_
  rw [encode, encodeFrame11_field, setWidth_field rfl (not_not.mp hhigh)]

theorem decodeFrame12_standsFor {w : BitVec 24} {i : Instr} (h : decodeFrame12 w = .ok i) :
    StandsFor ⟨.wireFrame12, w⟩ i := by
  obtain ⟨hhigh, hslots⟩ := guard_ok.mp h
  split at hslots
  · next hsent =>
    obtain ⟨h0, h10, h9⟩ := hsent
    cases hslots
    refine .of_encode rfl (by simp [bareRequests]) ?_
    rw [encode, ← h9, ← h0, ← h10, encodeFrame11_field, ofBool_getLsbD, field_append (show 11 = 0 + 11 from rfl),
      setWidth_field rfl (not_not.mp hhigh)]
  · cases hslots

/-! ## What a request stands for -/

/-- An operand field of which only the low `n` bits are used. -/
theorem operand_of_high {w : BitVec 24} {m n : Nat} (hn : 8 + n + m = 24) (h : field w (8 + n) m = 0) :
    (field w 8 n).setWidth 16 = field w 8 16 := by
  ext i hi
  rw [getElem_field, BitVec.getElem_setWidth, field, BitVec.getLsbD_extractLsb']
  by_cases hin : i < n
  · simp [hin]
  · have hbit : (field w (8 + n) m)[i - n]'(by omega) = false := by rw [h]; simp
    rw [getElem_field, show 8 + n + (i - n) = 8 + i by omega] at hbit
    simp [hin, hbit]

theorem lineOfBit_operand (w : BitVec 24) :
    lineLevelOperand (lineOfBit (w.getLsbD 8)) (w.getLsbD 9) = (field w 8 2).setWidth 16 := by
  have hline : ∀ b, bitOfLine (lineOfBit b) = b := by decide
  rw [lineLevelOperand, hline, ofBool_getLsbD, ofBool_getLsbD, field_append (show 9 = 8 + 1 from rfl)]

theorem lineOfBit_operand_low (w : BitVec 24) :
    lineLevelOperand (lineOfBit (w.getLsbD 8)) false = (field w 8 1).setWidth 16 := by
  have hline : ∀ b, lineLevelOperand (lineOfBit b) false = (BitVec.ofBool b).setWidth 16 := by decide
  rw [hline, ofBool_getLsbD]

section
variable {w : BitVec 24} {i : Instr} {sel : BitVec 4} (hpad : field w 4 4 = 0) (hsel : (field w 0 4).toNat = sel.toNat)
include hpad hsel

/-- A request word without an operand and the word of its instruction differ in `op_arg` only. -/
theorem bareRequest_standsFor {j : Instr} (hbare : j ∈ bareRequests) (henc : encode j = encodeBare sel)
    (h : decodeBare j w = .ok i) : StandsFor ⟨.opSel, w⟩ i := by
  obtain ⟨hhigh, hi⟩ := guard_ok.mp h
  cases hi
  have hwf : ∀ k ∈ bareRequests, k.wellFormed = true := by decide
  obtain rfl := BitVec.eq_of_toNat_eq hsel
  refine ⟨hwf _ hbare, fun hn => absurd hbare hn, fun _ => ⟨rfl, ?_, not_not.mp hhigh, ?_, ?_⟩⟩ <;>
    rw [henc, encodeBare_eq_portWord]
  · rfl
  · exact portWord_high _ _
  · rw [← field_append (m := 4) (show 4 = 0 + 4 from rfl), ← field_append (m := 4) (show 4 = 0 + 4 from rfl),
      portWord_sel, portWord_pad, hpad]

/-- A request word with an operand is its instruction's own. -/
theorem operandRequest_standsFor (hwf : i.wellFormed = true) (hbare : i ∉ bareRequests)
    (henc : encode i = encodeOperand sel (field w 8 16)) : StandsFor ⟨.opSel, w⟩ i := by
  obtain rfl := BitVec.eq_of_toNat_eq hsel
  exact .of_encode hwf hbare (henc.trans (encodeOperand_field hpad))

theorem byteRequest_standsFor {make : Byte → Instr} (hwf : ∀ b, (make b).wellFormed = true)
    (hbare : ∀ b, make b ∉ bareRequests) (henc : ∀ b, encode (make b) = encodeOperand sel (b.setWidth 16))
    (h : decodeByteOperand make w = .ok i) : StandsFor ⟨.opSel, w⟩ i := by
  obtain ⟨hhigh, hi⟩ := guard_ok.mp h
  cases hi
  refine operandRequest_standsFor hpad hsel (hwf _) (hbare _) ?_
  rw [henc, operand_of_high rfl (not_not.mp hhigh)]

theorem lineRequest_standsFor {make : Line → Instr} (hwf : ∀ l, (make l).wellFormed = true)
    (hbare : ∀ l, make l ∉ bareRequests) (henc : ∀ l, encode (make l) = encodeOperand sel (lineLevelOperand l false))
    (h : decodeLineOperand make w = .ok i) : StandsFor ⟨.opSel, w⟩ i := by
  obtain ⟨hhigh, hi⟩ := guard_ok.mp h
  cases hi
  refine operandRequest_standsFor hpad hsel (hwf _) (hbare _) ?_
  rw [henc, lineOfBit_operand_low, operand_of_high rfl (not_not.mp hhigh)]

theorem lineLevelRequest_standsFor {make : Line → Level → Instr} (hwf : ∀ l v, (make l v).wellFormed = true)
    (hbare : ∀ l v, make l v ∉ bareRequests)
    (henc : ∀ l v, encode (make l v) = encodeOperand sel (lineLevelOperand l v))
    (h : decodeLineLevelOperand make w = .ok i) : StandsFor ⟨.opSel, w⟩ i := by
  obtain ⟨hhigh, hi⟩ := guard_ok.mp h
  cases hi
  refine operandRequest_standsFor hpad hsel (hwf _ _) (hbare _ _) ?_
  rw [henc, lineOfBit_operand, operand_of_high rfl (not_not.mp hhigh)]

theorem delayRequest_standsFor (hdelay : sel = 0x5) : StandsFor ⟨.opSel, w⟩ (.opDelay (field w 8 16).toNat) := by
  refine operandRequest_standsFor hpad hsel (decide_eq_true (BitVec.isLt _)) (by simp [bareRequests]) ?_
  rw [hdelay, encode, BitVec.ofNat_toNat, BitVec.setWidth_eq]

end

/-- A request word, code by code. -/
theorem decodeOp_standsFor {w : BitVec 24} {i : Instr} (h : decodeOp w = .ok i) : StandsFor ⟨.opSel, w⟩ i := by
  obtain ⟨hn, hop⟩ := guard_ok.mp h
  have hpad : field w 4 4 = 0 := not_not.mp hn
  split at hop
  next hs => exact bareRequest_standsFor (sel := 0x0) hpad hs (by decide) rfl hop
  next hs => exact bareRequest_standsFor (sel := 0x1) hpad hs (by decide) rfl hop
  next hs => exact bareRequest_standsFor (sel := 0x2) hpad hs (by decide) rfl hop
  next hs => exact byteRequest_standsFor (sel := 0x3) hpad hs (fun _ => rfl) (by simp [bareRequests]) (fun _ => rfl) hop
  next hs => exact byteRequest_standsFor (sel := 0x4) hpad hs (fun _ => rfl) (by simp [bareRequests]) (fun _ => rfl) hop
  next hs => cases hop; exact delayRequest_standsFor (sel := 0x5) hpad hs rfl
  next hs => exact bareRequest_standsFor (sel := 0x6) hpad hs (by decide) rfl hop
  next hs => exact bareRequest_standsFor (sel := 0x7) hpad hs (by decide) rfl hop
  next hs => exact byteRequest_standsFor (sel := 0x8) hpad hs (fun _ => rfl) (by simp [bareRequests]) (fun _ => rfl) hop
  next hs => exact bareRequest_standsFor (sel := 0x9) hpad hs (by decide) rfl hop
  next hs => exact byteRequest_standsFor (sel := 0xA) hpad hs (fun _ => rfl) (by simp [bareRequests]) (fun _ => rfl) hop
  next hs => exact bareRequest_standsFor (sel := 0xB) hpad hs (by decide) rfl hop
  next hs => exact lineRequest_standsFor (sel := 0xC) hpad hs (fun _ => rfl) (by simp [bareRequests]) (fun _ => rfl) hop
  next hs =>
    exact lineLevelRequest_standsFor (sel := 0xD) hpad hs (fun _ _ => rfl) (by simp [bareRequests]) (fun _ _ => rfl) hop
  next hs => exact lineRequest_standsFor (sel := 0xE) hpad hs (fun _ => rfl) (by simp [bareRequests]) (fun _ => rfl) hop
  next =>
    have hs : (field w 0 4).toNat = 0xF := by
      have hlt := (field w 0 4).isLt
      grind
    exact lineLevelRequest_standsFor (sel := 0xF) hpad hs (fun _ _ => rfl) (by simp [bareRequests]) (fun _ _ => rfl) hop

/-- Settles O49: in each format, putting the decoded fields together again gives the word. -/
theorem decodedWordsAreEncodings : Obligations.DecodedWordsAreEncodings := by
  intro ⟨f, w⟩ i h
  suffices hw : StandsFor ⟨f, w⟩ i from ⟨hw.wellFormed, hw.own, hw.bare⟩
  cases f with
  | opSel => exact decodeOp_standsFor h
  | commandByte => exact decodeCommand_standsFor h
  | responseByte => exact decodeResponse_standsFor h
  | wireFrame11 => exact decodeFrame11_standsFor h
  | wireFrame12 => exact decodeFrame12_standsFor h
  | reportByte1 | reportByte2 | reportByte3 | reportByte4 =>
    exact decodeReportByte_standsFor (fun _ => rfl) (fun _ => by simp [bareRequests]) (fun _ => rfl) h

/-! ## Written-out words -/

/-- Settles O47: nine words, evaluated. -/
theorem writtenOutWordsDecode : Obligations.WrittenOutWordsDecode := by
  unfold Obligations.WrittenOutWordsDecode
  decide

end Sys2Proof
end

section
/-! PROOFS. Odd parity (30_encoding.md R72) and the codes a caller may not present (R91). -/

namespace Sys2Proof.Machine

/-! ## Parity -/

theorem toNat_xor_mod_two (a b : Bool) : (a ^^ b).toNat % 2 = (a.toNat + b.toNat) % 2 := by
  cases a <;> cases b <;> rfl

/-- The parity bit counts one more than the ones of the byte, modulo 2. -/
theorem oddParity_toNat (b : Byte) : (oddParity b).toNat % 2 = (1 + popcount b) % 2 := by
  simp only [oddParity, popcount, toNat_xor_mod_two, Nat.add_mod, Nat.mod_mod, Bool.toNat_true]
  omega

theorem oddParity_eq_true {b : Byte} : oddParity b = true ↔ popcount b % 2 = 0 := by
  have h := oddParity_toNat b
  cases hp : oddParity b <;> rw [hp] at h <;> simp at h ⊢ <;> omega

theorem oddParity_eq_false {b : Byte} : oddParity b = false ↔ popcount b % 2 = 1 := by
  rw [← Bool.not_eq_true, oddParity_eq_true]
  omega

theorem parityAccepts_true {n : Nat} : parityAccepts true n = true ↔ n % 2 = 0 := by simp [parityAccepts]

theorem parityAccepts_false {n : Nat} : parityAccepts false n = true ↔ n % 2 = 1 := by simp [parityAccepts]

/-- The receiver accepts exactly the parity bit the sender makes (R72, R119). -/
theorem parityAccepts_popcount (d : Level) (b : Byte) : parityAccepts d (popcount b) = (d == oddParity b) := by
  rw [Bool.eq_iff_iff, beq_iff_eq]
  cases d
  · rw [parityAccepts_false, ← oddParity_eq_false, eq_comm]
  · rw [parityAccepts_true, ← oddParity_eq_true, eq_comm]

/-- Settles O46: the parity bit modulo 2 (`oddParity_toNat`), and the receiver's test against it. -/
theorem parityIsOdd : Obligations.ParityIsOdd := by
  refine ⟨fun b => ⟨?_, rfl, oddParity_eq_true, oddParity_eq_false, fun d => parityAccepts_popcount d b⟩,
    fun _ => parityAccepts_false, fun _ => parityAccepts_true, by decide⟩
  have h := oddParity_toNat b
  omega

/-! ## Reserved and internal codes -/

theorem decode_portWord_reserved0 (arg : Byte) : decode (portWord 0x0 arg) = .ok .reserved0 := by
  simp [decode_portWord, decodeOp, decodeBare]

theorem decode_portWord_reserved6 (arg : Byte) : decode (portWord 0x6 arg) = .ok .reserved6 := by
  simp [decode_portWord, decodeOp, decodeBare]

theorem decode_portWord_reserved7 (arg : Byte) : decode (portWord 0x7 arg) = .ok .reserved7 := by
  simp [decode_portWord, decodeOp, decodeBare]

/-- On an idle block a reserved code is refused by its meaning, whether it is called or started: it has no control
point. -/
theorem step_reserved {s : State} {rest : List Input} {sel : BitVec 4} {arg : Byte} {i : Instr}
    (hidle : s.ctl.stack = []) (hin : s.inbox = .call sel arg :: rest ∨ s.inbox = .start sel arg :: rest)
    (hsel : internalCode sel = false) (hdec : decode (portWord sel arg) = .ok i) (hp : startPoint i = none)
    (hexec : ∀ t, exec i t = .refused (.reservedCode sel)) : step s = .refused (.reservedCode sel) := by
  rcases hin with hin | hin
  · exact (step_call hidle hin hsel hdec).trans (hexec _)
  · exact (step_of_fetch_run (fetch_start_exec hidle hin hsel hdec hp)).trans (hexec _)

/-- An internal code is refused before its word is looked at. -/
theorem step_internal {s : State} {rest : List Input} {sel : BitVec 4} {arg : Byte} (hidle : s.ctl.stack = [])
    (hin : s.inbox = .call sel arg :: rest ∨ s.inbox = .start sel arg :: rest) (hsel : internalCode sel = true) :
    step s = .refused (.internalCode sel) := by
  apply step_of_fetch_turnedAway
  rcases hin with hin | hin <;> rw [fetch, hin]
  · simp [fetchCall, busy_idle hidle, hsel]
  · simp [fetchStart, busy_idle hidle, hsel]

/-- Settles O5: the meanings of the three reserved codes, which their port words decode to, and the check that comes
before decoding. -/
theorem reservedAndInternalCodesAreRefused : Obligations.ReservedAndInternalCodesAreRefused := by
  refine ⟨fun _ => ⟨rfl, rfl, rfl⟩, fun s rest sel arg hidle hin => ⟨fun hsel => ?_, fun hsel => ?_⟩⟩
  · simp only [List.mem_cons, List.not_mem_nil, or_false] at hsel
    rcases hsel with rfl | rfl | rfl
    · exact step_reserved hidle hin rfl (decode_portWord_reserved0 arg) rfl fun _ => rfl
    · exact step_reserved hidle hin rfl (decode_portWord_reserved6 arg) rfl fun _ => rfl
    · exact step_reserved hidle hin rfl (decode_portWord_reserved7 arg) rfl fun _ => rfl
  · have hinternal : ∀ c ∈ ([0x5, 0xC, 0xD, 0xE, 0xF] : List (BitVec 4)), internalCode c = true := by decide
    exact step_internal hidle hin (hinternal sel hsel)

end Sys2Proof.Machine
end

section
/-! PROOFS. No register outgrows its width (30_encoding.md R95; D15): the bounds at every control point and in every
instruction. -/

namespace Sys2Proof.Machine

/-! ## Bounds of the registers -/

/-- The registers of a byte in transfer and of a wait. -/
def TransferFits (s : State) : Prop := s.i ≤ 10 ∧ s.ones ≤ 8 ∧ s.count ≤ Config.maxSamples

/-- The three motion values of the event. -/
def EventFits (s : State) : Prop :=
  motionFits s.ev.moveX ∧ motionFits s.ev.moveY ∧ -32768 ≤ s.ev.moveZ ∧ s.ev.moveZ ≤ 32767

/-- The registers of the session and what the caller's operation returned. -/
def SessionFits (s : State) : Prop := s.seq ≤ 6 ∧ s.k ≤ 3 ∧ codeFits s.result

/-- Every register is within its width. -/
def RegistersFit (s : State) : Prop := TransferFits s ∧ EventFits s ∧ SessionFits s

/-- All of `RangesFit` but the nest. -/
structure WithinRanges (s : State) : Prop where
  registers : RegistersFit s
  ret : ∀ v, s.ctl.ret = some v → codeFits v
  points : ∀ p ∈ s.ctl.stack, pointRanges p s
  payload : payloadRanges s

theorem rangesFit_iff (s : State) : RangesFit s ↔ NestingLegal s ∧ WithinRanges s where
  mp h := ⟨h.nesting, ⟨⟨⟨h.i, h.ones, h.count⟩, ⟨h.moveX, h.moveY, h.moveZ⟩, h.seq, h.k, h.result⟩, h.ret, h.points,
    h.payload⟩⟩
  mpr := fun ⟨hn, ⟨⟨⟨hi, hones, hcount⟩, ⟨hx, hy, hz⟩, hseq, hk, hresult⟩, hret, hpoints, hpayload⟩⟩ =>
    ⟨hn, hi, hones, hcount, hseq, hk, hresult, hx, hy, hz, hret, hpoints, hpayload⟩

/-- An idle block needs its registers' bounds only. -/
theorem withinRanges_idle {s : State} (hreg : RegistersFit s) (hstack : s.ctl.stack = []) (hret : s.ctl.ret = none) :
    WithinRanges s where
  registers := hreg
  ret v h := by rw [hret] at h; cases h
  points p hp := by rw [hstack] at hp; cases hp
  payload := by unfold payloadRanges; rw [hstack]; intro h; cases h

/-! ## Result codes -/

theorem slotCodes_fit {n : Nat} (h : n ≤ 10) :
    codeFits (Config.txErrBitHigh n) ∧ codeFits (Config.txErrBitLow n) ∧ codeFits (Config.rxErrClkLow n) ∧
      codeFits (Config.rxErrClkHigh n) := by
  simp only [codeFits, Config.txErrBitHigh, Config.txErrBitLow, Config.rxErrClkLow, Config.rxErrClkHigh]
  omega

theorem byte_fits (b : Byte) : codeFits (b.toNat : Int) := by
  have := b.isLt
  constructor <;> omega

theorem maskByte_fits (v : Int) : codeFits (maskByte v) := by
  unfold maskByte
  constructor <;> omega

theorem bool_fits (b : Bool) : codeFits (b.toNat : Int) := by cases b <;> decide

/-! ## The check of a slot (R119), slot by slot -/

theorem slotVerdict_start (d : Level) (acc : Byte) (ones : Nat) :
    slotVerdict 0 d acc ones = if d then .error Config.rxErrStart else .ok (acc, ones) := rfl

theorem slotVerdict_data {i : Nat} (h1 : 1 ≤ i) (h8 : i ≤ 8) (d : Level) (acc : Byte) (ones : Nat) :
    slotVerdict i d acc ones = .ok (if d then (setBit acc (i - 1), ones + 1) else (acc, ones)) := by
  rw [slotVerdict, if_neg (by omega), if_pos h8]
  cases d <;> rfl

theorem slotVerdict_parity (d : Level) (acc : Byte) (ones : Nat) :
    slotVerdict 9 d acc ones = if parityAccepts d ones then .ok (acc, ones) else .error Config.rxErrParity := rfl

theorem slotVerdict_stop {i : Nat} (h : 9 < i) (d : Level) (acc : Byte) (ones : Nat) :
    slotVerdict i d acc ones = if d then .ok (acc, ones) else .error Config.rxErrStop := by
  rw [slotVerdict, if_neg (by omega), if_neg (by omega), if_neg (by omega)]

/-- What the check of a slot can answer: an abort, the registers as they are, or one more bit at a data slot. -/
theorem slotVerdict_cases (i : Nat) (d : Level) (acc : Byte) (ones : Nat) :
    (∃ c ∈ [Config.rxErrStart, Config.rxErrParity, Config.rxErrStop], slotVerdict i d acc ones = .error c) ∨
      slotVerdict i d acc ones = .ok (acc, ones) ∨
      (1 ≤ i ∧ i ≤ 8 ∧ slotVerdict i d acc ones = .ok (setBit acc (i - 1), ones + 1)) := by
  have hcases : i = 0 ∨ (1 ≤ i ∧ i ≤ 8) ∨ i = 9 ∨ 9 < i := by omega
  rcases hcases with rfl | ⟨h1, h8⟩ | rfl | h9
  · rw [slotVerdict_start]
    cases d <;> simp
  · rw [slotVerdict_data h1 h8]
    cases d <;> simp [h1, h8]
  · rw [slotVerdict_parity]
    cases parityAccepts d ones <;> simp
  · rw [slotVerdict_stop h9]
    cases d <;> simp

theorem slotVerdict_code {i ones : Nat} {d : Level} {acc : Byte} {c : Int} (h : slotVerdict i d acc ones = .error c) :
    codeFits c := by
  have hcodes : ∀ c ∈ [Config.rxErrStart, Config.rxErrParity, Config.rxErrStop], codeFits c := by decide
  rcases slotVerdict_cases i d acc ones with ⟨c', hc, hv⟩ | hv | ⟨-, -, hv⟩ <;> rw [hv] at h <;> cases h
  exact hcodes c hc

/-- A slot counts at most one bit, and a data slot only. -/
theorem slotVerdict_ones {i ones : Nat} {d : Level} {acc : Byte} {v : Byte × Nat}
    (h : slotVerdict i d acc ones = .ok v) (hones : ones ≤ i - 1) (h8 : ones ≤ 8) : v.2 ≤ i ∧ v.2 ≤ 8 := by
  rcases slotVerdict_cases i d acc ones with ⟨c', hc, hv⟩ | hv | ⟨h1, hi, hv⟩ <;> rw [hv] at h <;> cases h
  · exact ⟨hones.trans (Nat.sub_le _ _), h8⟩
  · exact ⟨show ones + 1 ≤ i by omega, show ones + 1 ≤ 8 by omega⟩

/-! ## Below the active point -/

/-- Every operation below the active one was called, and ranks above it. -/
theorem nestedCalls_below {p : Point} {rest : List Point} (h : nestedCalls (p :: rest)) :
    ∀ q ∈ rest, calls q ≠ none ∧ nestRank (operationOf p) < nestRank (operationOf q) := by
  induction rest generalizing p with
  | nil => intro q hq; cases hq
  | cons r below ih =>
    obtain ⟨hcall, hbelow⟩ := h
    have hrank := nestRank_calls hcall
    intro q hq
    rcases List.mem_cons.mp hq with rfl | hq
    · exact ⟨by rw [hcall]; simp, hrank⟩
    · obtain ⟨hq', hlt⟩ := ih hbelow q hq
      exact ⟨hq', hrank.trans hlt⟩

theorem nestRank_pos {o : Operation} (h : o ≠ .wait) : 1 ≤ nestRank o := by
  cases o with
  | wait => exact absurd rfl h
  | _ => decide

/-- The bounds that the points below the active one ask for: a receive that waits, and a payload read of `begin`. -/
def BelowFits (rest : List Point) (s : State) : Prop :=
  (∀ q ∈ rest, pointRanges q s) ∧ (.b2 ∈ rest → s.k ≤ 2)

/-- Where no wait is active, nothing below the active point looks at the registers of a byte in transfer. -/
theorem belowFits_of_not_wait {p : Point} {rest : List Point} {s : State} (hn : nestedCalls (p :: rest))
    (hp : operationOf p ≠ .wait) (hk : .b2 ∈ rest → s.k ≤ 2) : BelowFits rest s := by
  refine ⟨fun q hq => ?_, hk⟩
  obtain ⟨hcalls, hrank⟩ := nestedCalls_below hn q hq
  have hpos := nestRank_pos hp
  cases q with
  | w1 | w2 | v5 => simp [calls] at hcalls
  | v3 | v4 =>
    have hlow : nestRank (operationOf p) < 1 := hrank
    omega
  | _ => trivial

theorem BelowFits.keep {p : Point} {rest : List Point} {s t : State} (h : BelowFits rest s)
    (hn : nestedCalls (p :: rest)) (hp : operationOf p ≠ .wait) (hk : t.k = s.k) : BelowFits rest t :=
  belowFits_of_not_wait hn hp fun hm => by rw [hk]; exact h.2 hm

/-- A wait's own register is looked at by none of them. -/
theorem BelowFits.set_count {p : Point} {rest : List Point} {s : State} (hn : nestedCalls (p :: rest))
    (h : BelowFits rest s) (n : Nat) : BelowFits rest { s with count := n } := by
  refine ⟨fun q hq => ?_, h.2⟩
  obtain ⟨hcalls, -⟩ := nestedCalls_below hn q hq
  have hq' := h.1 q hq
  cases q with
  | w1 | w2 | v5 => simp [calls] at hcalls
  | v3 | v4 => exact hq'
  | _ => trivial

theorem payloadRanges_cons {s : State} {p : Point} {rest : List Point} (hs : s.ctl.stack = p :: rest)
    (hrest : .b2 ∈ rest → s.k ≤ 2) (hp : p = .b2 → s.ctl.ret = none ∨ s.k ≤ 2) : payloadRanges s := by
  unfold payloadRanges
  split
  · next h _ => rw [hs] at h; cases h; exact hrest
  · next hne =>
    intro hmem
    rw [hs] at hmem
    rcases List.mem_cons.mp hmem with h | h
    · rcases hp h.symm with hret | hk
      · exact absurd hret (hne rest (by rw [hs, h]))
      · exact hk
    · exact hrest h

/-! ## Where a tick can go -/

section
variable {rest : List Point} {t : State} (hb : BelowFits rest t) (hr : RegistersFit t)
include hb hr

/-- The operation goes on at another of its points. -/
theorem goto_within {q : Point} (hq : pointRanges q t) : WithinRanges (goto q rest t) where
  registers := hr
  ret _ h := nomatch h
  points := List.forall_mem_cons.mpr ⟨hq, hb.1⟩
  payload := payloadRanges_cons rfl hb.2 fun _ => .inl rfl

/-- It calls another. -/
theorem call_within {c p : Point} (hc : pointRanges c t) (hp : pointRanges p t) (hk : .b2 ∈ p :: rest → t.k ≤ 2) :
    WithinRanges (callPoint c p rest t) where
  registers := hr
  ret _ h := nomatch h
  points := List.forall_mem_cons.mpr ⟨hc, List.forall_mem_cons.mpr ⟨hp, hb.1⟩⟩
  payload := payloadRanges_cons rfl hk fun _ => .inl rfl

/-- It ends and hands a value of the block on. -/
theorem returnResult_within {v : Int} (hv : codeFits v) : WithinRanges (returnResult rest v t) := by
  obtain ⟨htransfer, hevent, hseq, hk, hresult⟩ := hr
  cases rest with
  | nil => exact withinRanges_idle ⟨htransfer, hevent, hseq, hk, hv⟩ rfl rfl
  | cons p below =>
    have hpayload : payloadRanges (returnResult (p :: below) v t) :=
      payloadRanges_cons rfl (fun h => hb.2 (.tail _ h)) fun h => .inr (hb.2 (h ▸ .head _))
    exact ⟨⟨htransfer, hevent, hseq, hk, hresult⟩, fun _ h => by cases h; exact hv, hb.1, hpayload⟩

theorem returnTo_within {v : Int} (hv : codeFits v) : WithinRanges (returnTo rest v t) := by
  cases rest with
  | nil => exact withinRanges_idle hr rfl rfl
  | cons p below => exact returnResult_within hb hr hv

end

/-! ## Every tick -/

theorem payloadAt_le (n : Nat) : payloadAt n ≤ 3 := by
  have hall : ∀ m ∈ Config.initPayloads, m ≤ 3 := by decide
  unfold payloadAt
  rw [List.getD_eq_getElem?_getD]
  cases h : Config.initPayloads[n]? with
  | none => exact Nat.zero_le _
  | some m => exact hall m (List.mem_of_getElem? h)

theorem motion_fits (flags : Byte) (sign : Nat) (b : Byte) : motionFits (motion flags sign b) := by
  have := b.isLt
  unfold motion
  split <;> constructor <;> omega

theorem decodeReport_fits (s : State) : EventFits (decodeReport s) :=
  ⟨motion_fits _ _ _, motion_fits _ _ _, BitVec.le_toInt _, Int.le_of_lt_add_one (BitVec.toInt_lt)⟩

theorem putSlot_fits {s : State} (h : RegistersFit s) : RegistersFit (putSlot s) := by
  unfold RegistersFit TransferFits EventFits SessionFits at *
  simpa using h

theorem storeReport_fits (n : Nat) (v : Int) {s : State} (h : RegistersFit s) : RegistersFit (storeReport n v s) := by
  unfold RegistersFit TransferFits EventFits SessionFits at *
  simpa using h

theorem RegistersFit.set_i {s : State} {n : Nat} {v : Level} (h : RegistersFit s) (hn : n ≤ 10) :
    RegistersFit { s with i := n, par := v } := ⟨⟨hn, h.1.2⟩, h.2⟩

theorem RegistersFit.set_seq {s : State} {n : Nat} (h : RegistersFit s) (hn : n ≤ 6) :
    RegistersFit { s with seq := n } := ⟨h.1, h.2.1, hn, h.2.2.2⟩

theorem RegistersFit.set_k {s : State} {n : Nat} (h : RegistersFit s) (hn : n ≤ 3) :
    RegistersFit { s with k := n } := ⟨h.1, h.2.1, h.2.2.1, hn, h.2.2.2.2⟩

theorem RegistersFit.set_count {s : State} {n : Nat} (h : RegistersFit s) (hn : n ≤ Config.maxSamples) :
    RegistersFit { s with count := n } := ⟨⟨h.1.1, h.1.2.1, hn⟩, h.2⟩

section
variable {p : Point} {rest : List Point} {s : State} (hn : nestedCalls (p :: rest)) (hr : RegistersFit s)
  (hb : BelowFits rest s) (hp : pointRanges p s)
include hn hr hb hp

/-- The action of a point keeps the ranges. -/
theorem runPoint_within : WithinRanges (runPoint p rest s) := by
  cases p <;> simp only [runPoint, abortTo_eq]
  case w0 l v =>
    refine goto_within ?_ ?_ ?_
    exacts [hb.set_count hn 0, hr.set_count (Nat.zero_le _), Nat.zero_le _]
  case w1 l v =>
    have hc : s.count + 1 ≤ Config.maxSamples := Nat.succ_le_succ hp
    have hlook : RegistersFit (look l s).2 := hr
    split
    · refine returnResult_within ?_ ?_ ?_
      exacts [hb, hr, by decide]
    · split
      · refine returnResult_within ?_ ?_ ?_
        exacts [hb.set_count hn _, hlook.set_count hc, by decide]
      · next hbudget =>
        refine goto_within ?_ ?_ ?_
        exacts [hb.set_count hn _, hlook.set_count hc, Nat.not_lt.mp hbudget]
  case s9 => exact goto_within (hb.keep hn (by decide) (putSlot_k s)) (putSlot_fits hr) trivial
  case s12 =>
    split
    · refine returnResult_within ?_ ?_ ?_
      exacts [hb, hr, by decide]
    · refine goto_within ?_ ?_ ?_
      exacts [hb, hr, trivial]
  case v2 =>
    obtain ⟨⟨-, -, hcount⟩, hrest⟩ := hr
    refine goto_within ?_ ?_ ?_
    exacts [hb.keep hn (by decide) rfl, ⟨⟨Nat.zero_le _, Nat.zero_le _, hcount⟩, hrest⟩, Nat.zero_le _]
  case v5 =>
    cases hv : slotVerdict s.i (sampleLine .data s).1 s.acc s.ones with
    | error c =>
      rw [takeSlot_error (s := (sampleLine .data s).2) hv]
      refine returnResult_within ?_ ?_ ?_
      exacts [hb, hr, slotVerdict_code hv]
    | ok v =>
      obtain ⟨hones, hones8⟩ := slotVerdict_ones hv hp hr.1.2.1
      obtain ⟨⟨hi, -, hcount⟩, hrest⟩ := hr
      rw [takeSlot_ok (s := (sampleLine .data s).2) hv]
      dsimp only
      split
      · next hslot =>
        refine goto_within ?_ ?_ ?_
        exacts [hb.keep hn (by decide) rfl, ⟨⟨Nat.le_of_lt_succ hslot, hones8, hcount⟩, hrest⟩, hones]
      · refine goto_within ?_ ?_ ?_
        exacts [hb.keep hn (by decide) rfl, ⟨⟨hi, hones8, hcount⟩, hrest⟩, trivial]
  case b0 =>
    refine goto_within ?_ ?_ ?_
    exacts [hb, hr.set_seq (Nat.zero_le _), trivial]
  case b2 =>
    split
    · next hk =>
      have hk2 : s.k ≤ 2 := by have := payloadAt_le s.seq; omega
      exact call_within hb hr trivial trivial fun _ => hk2
    · exact goto_within hb hr trivial
  case b3 =>
    split
    · next hseq =>
      refine goto_within ?_ ?_ ?_
      exacts [hb, hr.set_seq (Nat.le_of_lt_succ hseq), trivial]
    · exact goto_within hb hr trivial
  case u2 =>
    refine returnTo_within ?_ ?_ ?_
    exacts [hb, ⟨hr.1, decodeReport_fits s, hr.2.2⟩, by decide]
  case s14 =>
    refine returnResult_within ?_ ?_ ?_
    exacts [hb, hr, by decide]
  case v6 =>
    refine returnResult_within ?_ ?_ ?_
    exacts [hb, hr, byte_fits _]
  case s8 | s10 | s11 | s13 | v3 | v4 | a0 | a1 | d0 | b1 | b4 | u0 | u1 =>
    exact call_within hb hr trivial hp (by simpa using hb.2)
  all_goals
    refine goto_within ?_ ?_ ?_
    exacts [hb, hr, hp]

/-- Taking a value of the block keeps the ranges. -/
theorem resumePoint_within {v : Int} (hv : codeFits v) (hk : p = .b2 → s.k ≤ 2) :
    WithinRanges (resumePoint p v rest s) := by
  obtain ⟨hhigh, hlow, hclkLow, hclkHigh⟩ := slotCodes_fit hr.1.1
  cases p <;> simp only [resumePoint, abortTo_eq]
  case s8 =>
    split
    · refine goto_within ?_ ?_ ?_
      exacts [hb.keep hn (by decide) rfl, hr.set_i (Nat.zero_le _), trivial]
    · exact returnResult_within hb hr (by decide)
  case s10 => split; exacts [goto_within hb hr trivial, returnResult_within hb hr hhigh]
  case s11 =>
    split
    · split
      · next hslot =>
        refine goto_within ?_ ?_ ?_
        exacts [hb.keep hn (by decide) rfl, hr.set_i (Nat.le_of_lt hslot), trivial]
      · exact goto_within hb hr trivial
    · exact returnResult_within hb hr hlow
  case s13 => split; exacts [goto_within hb hr trivial, returnResult_within hb hr (by decide)]
  case v3 => split; exacts [goto_within hb hr hp, returnResult_within hb hr hclkLow]
  case v4 => split; exacts [goto_within hb hr hp, returnResult_within hb hr hclkHigh]
  case a0 => split; exacts [returnResult_within hb hr (by decide), goto_within hb hr trivial]
  case a1 => split; exacts [returnResult_within hb hr (by decide), returnResult_within hb hr (maskByte_fits v)]
  case d0 => exact returnResult_within hb hr hv
  case b1 =>
    split
    · refine goto_within ?_ ?_ ?_
      exacts [belowFits_of_not_wait hn (by decide) fun _ => Nat.zero_le _, hr.set_k (Nat.zero_le _), trivial]
    · exact returnResult_within hb hr (by decide)
  case b2 =>
    have htop : .b2 ∉ rest := fun h => (nestedCalls_below hn _ h).2.false
    refine goto_within ?_ ?_ ?_
    exacts [belowFits_of_not_wait hn (by decide) fun h => absurd h htop, hr.set_k (Nat.succ_le_succ (hk rfl)), trivial]
  case b4 => exact returnResult_within hb hr (by decide)
  case u0 =>
    refine goto_within ?_ ?_ ?_
    exacts [belowFits_of_not_wait hn (by decide) fun _ => Nat.zero_le _, hr.set_k (Nat.zero_le _), trivial]
  case u1 =>
    have hstore := storeReport_fits s.k v hr
    split
    · next hread =>
      have hk2 : (storeReport s.k v s).k + 1 ≤ 2 := Nat.le_of_lt_succ hread
      refine goto_within ?_ ?_ ?_
      exacts [belowFits_of_not_wait hn (by decide) fun _ => hk2, hstore.set_k (hk2.trans (by decide)), trivial]
    · exact goto_within (hb.keep hn (by decide) (storeReport_k _ _ _)) hstore trivial
  all_goals exact goto_within hb hr hp

end

/-- What `payloadRanges` says of an active block: of the operations below the active one, and of a payload read that has
just returned. -/
theorem payload_below {s : State} {p : Point} {rest : List Point} (hs : s.ctl.stack = p :: rest)
    (h : payloadRanges s) : (.b2 ∈ rest → s.k ≤ 2) ∧ ∀ v, s.ctl.ret = some v → p = .b2 → s.k ≤ 2 := by
  unfold payloadRanges at h
  split at h
  · next hstack hret =>
    rw [hs] at hstack
    cases hstack
    exact ⟨h, fun v hv => by rw [hret] at hv; cases hv⟩
  · rw [hs] at h
    exact ⟨fun hm => h (.tail _ hm), fun _ _ hp => h (hp ▸ .head _)⟩

/-- From an active point, a tick is its action or the taking of a value. -/
theorem tick_within {s : State} (hn : NestingLegal s) (h : WithinRanges s) : WithinRanges (tick s) := by
  cases hs : s.ctl.stack with
  | nil => rw [tick_idle hs]; exact h
  | cons p rest =>
    have hnest : nestedCalls (p :: rest) := hs ▸ hn.1
    obtain ⟨hbelow, htop⟩ := payload_below hs h.payload
    have hpoints := h.points
    rw [hs] at hpoints
    obtain ⟨hp, hrest⟩ := List.forall_mem_cons.mp hpoints
    unfold tick
    rw [hs]
    cases hret : s.ctl.ret with
    | none => exact runPoint_within hnest h.registers ⟨hrest, hbelow⟩ hp
    | some v => exact resumePoint_within hnest h.registers ⟨hrest, hbelow⟩ hp (h.ret v hret) (htop v hret)

/-! ## The transfers' registers in an instruction -/

theorem waitForLevel_transferFits (l : Line) (v : Level) {s : State} (h : TransferFits s) :
    TransferFits (waitForLevel l v Config.waitCeiling s).2 := by
  obtain ⟨hi, hones, -⟩ := h
  exact ⟨by rw [waitForLevel_frame]; exact hi, by rw [waitForLevel_frame]; exact hones, waitForLevel_count l v s⟩

theorem waitOr_transferFits (l : Line) (v : Level) (code : Int) {s : State} (h : TransferFits s) :
    TransferFits (waitOr l v code s).state := by
  rw [waitOr_state]; exact waitForLevel_transferFits l v h

theorem sendSlots_transferFits {ns : List Nat} (hns : ∀ n ∈ ns, n ≤ 10) {s : State} (h : TransferFits s) :
    TransferFits (sendSlots ns s).state := by
  induction ns generalizing s with
  | nil => exact h
  | cons n rest ih =>
    obtain ⟨hn, hrest⟩ := List.forall_mem_cons.mp hns
    have hput : TransferFits (putSlot { s with i := n }) := by
      unfold TransferFits at *
      simpa using ⟨hn, h.2⟩
    exact Progress.andThen_holds (Progress.andThen_holds (waitOr_transferFits _ _ _ hput)
      fun _ ht => waitOr_transferFits _ _ _ ht) fun _ ht => ih hrest ht

theorem ackCheck_transferFits {s : State} (h : TransferFits s) : TransferFits (ackCheck s).state := by
  by_cases hr : (sampleLine .data s).1 = true
  · rw [ackCheck_refused hr]; exact h
  · rw [ackCheck_acked hr]
    exact Progress.andThen_holds (waitOr_transferFits _ _ _ (s := (sampleLine .data s).2) h) fun _ ht => ht

theorem txSlots_le : ∀ n ∈ txSlots, n ≤ 10 := by decide

theorem sendByte_transferFits (b : Byte) {s : State} (h : TransferFits s) : TransferFits (sendByte b s).2 := by
  unfold sendByte
  rw [Progress.toResult_state]
  exact Progress.andThen_holds (waitOr_transferFits _ _ _ (s := requestToSend b s) h) fun t ht =>
    Progress.andThen_holds (sendSlots_transferFits txSlots_le (s := { t with par := true }) ht)
      fun _ hu => ackCheck_transferFits hu

/-- What holds after the first part leads, on both its exits, to what holds after both. -/
theorem Progress.andThen_leads {P Q : State → Prop} {p : Progress} {g : State → Progress} (hp : P p.state)
    (hstop : ∀ t, P t → Q t) (hg : ∀ t, P t → Q (g t).state) : Q (p.andThen g).state := by
  cases p with
  | going t => exact hg t hp
  | aborted c t => exact hstop t hp

/-- A slot of a receive counts at most one bit. -/
theorem takeSlot_fits (d : Level) {s : State} (h : TransferFits s) (hones : s.ones ≤ s.i - 1) :
    TransferFits (takeSlot d s).state ∧ (takeSlot d s).state.ones ≤ s.i := by
  cases hv : slotVerdict s.i d s.acc s.ones with
  | error c => rw [takeSlot_error hv]; exact ⟨h, hones.trans (Nat.sub_le _ _)⟩
  | ok v =>
    obtain ⟨hi, h8⟩ := slotVerdict_ones hv hones h.2.1
    rw [takeSlot_ok hv]
    exact ⟨⟨h.1, h8, h.2.2⟩, hi⟩

/-- At slot `n` of a receive at most `n - 1` ones have been counted. -/
def AtSlot (n : Nat) (s : State) : Prop := TransferFits s ∧ s.i = n ∧ s.ones ≤ n - 1

theorem waitOr_atSlot {n : Nat} (l : Line) (v : Level) (code : Int) {s : State} (h : AtSlot n s) :
    AtSlot n (waitOr l v code s).state := by
  obtain ⟨hfits, hi, hones⟩ := h
  rw [waitOr_state]
  exact ⟨waitForLevel_transferFits l v hfits, by rw [waitForLevel_i]; exact hi, by rw [waitForLevel_frame]; exact hones⟩

theorem recvSlot_fits {n : Nat} (hn : n ≤ 10) {s : State} (h : TransferFits s) (hones : s.ones ≤ n - 1) :
    TransferFits (recvSlot n s).state ∧ (recvSlot n s).state.ones ≤ n := by
  have hstop : ∀ t, AtSlot n t → TransferFits t ∧ t.ones ≤ n := fun t ht => ⟨ht.1, ht.2.2.trans (Nat.sub_le _ _)⟩
  have hset : AtSlot n { s with i := n } := ⟨⟨hn, h.2⟩, rfl, hones⟩
  refine Progress.andThen_leads (Q := fun t => TransferFits t ∧ t.ones ≤ n) (waitOr_atSlot _ _ _ hset) hstop
    fun t ht => ?_
  refine Progress.andThen_leads (Q := fun t => TransferFits t ∧ t.ones ≤ n) (waitOr_atSlot _ _ _ ht) hstop
    fun u hu => ?_
  obtain ⟨hfits, rfl, hu⟩ := hu
  exact takeSlot_fits _ (s := (sampleLine .data u).2) hfits hu

theorem recvSlots_transferFits (m n : Nat) (hm : n + m ≤ 11) {s : State} (h : TransferFits s) (hones : s.ones ≤ n - 1) :
    TransferFits (recvSlots (List.range' n m) s).state := by
  induction m generalizing n s with
  | zero => exact h
  | succ m ih =>
    rw [List.range'_succ, recvSlots]
    exact Progress.andThen_leads (P := fun t => TransferFits t ∧ t.ones ≤ n) (recvSlot_fits (by omega) h hones)
      (fun _ ht => ht.1) fun t ⟨ht, hto⟩ => ih (n + 1) (by omega) ht hto

theorem receiveByte_transferFits {s : State} (h : TransferFits s) : TransferFits (receiveByte s).2 := by
  unfold receiveByte
  rw [Progress.toResult_state]
  exact Progress.andThen_holds (recvSlots_transferFits 11 0 (by decide) (s := receiveStart s)
    ⟨Nat.zero_le _, Nat.zero_le _, h.2.2⟩ (Nat.zero_le _)) fun _ ht => ht

theorem EventFits.of_ev {s t : State} (h : EventFits s) (hev : t.ev = s.ev) : EventFits t := by
  unfold EventFits
  rw [hev]
  exact h

theorem instrKeeps_fits : InstrKeeps fun s => TransferFits s ∧ EventFits s where
  send b s h := ⟨sendByte_transferFits b h.1, h.2.of_ev (sendByte_same b s).1.ev⟩
  receive s h := ⟨receiveByte_transferFits h.1, h.2.of_ev (receiveByte_same s).1.ev⟩
  setK _ _ h := h
  setSeq _ _ h := h
  store n v s h := by unfold TransferFits EventFits at *; simpa using h
  decode s h := ⟨h.1, decodeReport_fits s⟩
  present _ _ h := h
  finish _ _ h := h
  delay _ _ h := h
  release l s h := by unfold TransferFits EventFits at *; simpa using h
  drive l v s h := by unfold TransferFits EventFits at *; simpa using h
  sample _ _ h := h
  wait l v s h := ⟨waitForLevel_transferFits l v h.1, h.2.of_ev (waitForLevel_sameReport l v _ s).ev⟩

/-! ## The values of the operations -/

/-- If a part of an operation aborts, then with a code of the block. -/
def Progress.AbortFits : Progress → Prop
  | .going _ => True
  | .aborted code _ => codeFits code

theorem Progress.AbortFits.andThen {p : Progress} {g : State → Progress} (hp : p.AbortFits)
    (hg : ∀ t, (g t).AbortFits) : (p.andThen g).AbortFits := by
  cases p with
  | going t => exact hg t
  | aborted c t => exact hp

theorem Progress.AbortFits.toResult {p : Progress} {value : State → Int} (hp : p.AbortFits)
    (hv : ∀ t, codeFits (value t)) : codeFits (p.toResult value).1 := by
  cases p with
  | going t => exact hv t
  | aborted c t => exact hp

theorem waitOr_abortFits (l : Line) (v : Level) {code : Int} (h : codeFits code) (s : State) :
    (waitOr l v code s).AbortFits := by
  rw [waitOr_eq]
  split
  · trivial
  · exact h

theorem sendSlots_abortFits {ns : List Nat} (hns : ∀ n ∈ ns, n ≤ 10) (s : State) : (sendSlots ns s).AbortFits := by
  induction ns generalizing s with
  | nil => trivial
  | cons n rest ih =>
    obtain ⟨hn, hrest⟩ := List.forall_mem_cons.mp hns
    obtain ⟨hhigh, hlow, -, -⟩ := slotCodes_fit hn
    exact ((waitOr_abortFits _ _ hhigh _).andThen (waitOr_abortFits _ _ hlow)).andThen (ih hrest)

theorem ackCheck_abortFits (s : State) : (ackCheck s).AbortFits := by
  by_cases hr : (sampleLine .data s).1 = true
  · rw [ackCheck_refused hr]; show codeFits _; decide
  · rw [ackCheck_acked hr]
    exact (waitOr_abortFits _ _ (by decide) _).andThen fun _ => trivial

theorem sendByte_value_fits (b : Byte) (s : State) : codeFits (sendByte b s).1 :=
  ((waitOr_abortFits _ _ (by decide) _).andThen fun _ =>
    (sendSlots_abortFits txSlots_le _).andThen ackCheck_abortFits).toResult fun _ => by decide

theorem takeSlot_abortFits (d : Level) (s : State) : (takeSlot d s).AbortFits := by
  cases hv : slotVerdict s.i d s.acc s.ones with
  | error c => rw [takeSlot_error hv]; exact slotVerdict_code hv
  | ok v => rw [takeSlot_ok hv]; trivial

theorem recvSlots_abortFits {ns : List Nat} (hns : ∀ n ∈ ns, n ≤ 10) (s : State) : (recvSlots ns s).AbortFits := by
  induction ns generalizing s with
  | nil => trivial
  | cons n rest ih =>
    obtain ⟨hn, hrest⟩ := List.forall_mem_cons.mp hns
    obtain ⟨-, -, hlow, hhigh⟩ := slotCodes_fit hn
    exact ((waitOr_abortFits _ _ hlow _).andThen fun _ => (waitOr_abortFits _ _ hhigh _).andThen fun _ =>
      takeSlot_abortFits _ _).andThen (ih hrest)

theorem receiveByte_value_fits (s : State) : codeFits (receiveByte s).1 := by
  have hend : ∀ t, (Progress.going (driveLine .clock false t)).AbortFits := fun _ => trivial
  exact ((recvSlots_abortFits (by decide) _).andThen hend).toResult fun t => byte_fits t.acc

theorem writeAndReadAck_value_fits (b : Byte) (s : State) : codeFits (writeAndReadAck b s).1 := by
  unfold writeAndReadAck
  dsimp only
  split
  · show codeFits Config.wraErrSend; decide
  · split
    · show codeFits Config.wraErrRecv; decide
    · exact maskByte_fits _

/-! ## The session's registers in an instruction -/

/-- The byte operations keep the session and what the caller has been given. -/
theorem SessionFits.of_same {s t : State} (h : SessionFits s) (hsame : SameSession s t) (hgiven : given t = given s) :
    SessionFits t := by
  have hresult : t.result = s.result := congrArg Prod.fst hgiven
  unfold SessionFits
  rw [hsame.seq, hsame.k, hresult]
  exact h

theorem sendByte_sessionFits (b : Byte) {s : State} (h : SessionFits s) : SessionFits (sendByte b s).2 :=
  h.of_same (sendByte_same b s).1 (sendByte_given b s)

theorem receiveByte_sessionFits {s : State} (h : SessionFits s) : SessionFits (receiveByte s).2 :=
  h.of_same (receiveByte_same s).1 (receiveByte_given s)

theorem writeAndReadAck_sessionFits (b : Byte) {s : State} (h : SessionFits s) :
    SessionFits (writeAndReadAck b s).2 := by
  rw [writeAndReadAck_state]
  split
  · exact sendByte_sessionFits b h
  · exact receiveByte_sessionFits (sendByte_sessionFits b h)

theorem payloadReads_sessionFits (n : Nat) {s : State} (h : SessionFits s) (hk : s.k + n ≤ 3) :
    SessionFits (payloadReads n s) := by
  induction n generalizing s with
  | zero => exact h
  | succ n ih =>
    have hread := receiveByte_sessionFits h
    have hsame : (receiveByte s).2.k = s.k := (receiveByte_same s).1.k
    refine ih (s := { (receiveByte s).2 with k := (receiveByte s).2.k + 1 }) ⟨hread.1, ?_, hread.2.2⟩ ?_
    all_goals
      dsimp only
      omega

theorem exchange_sessionFits (b : Byte) {n : Nat} (hn : n ≤ 3) {s : State} (h : SessionFits s) :
    SessionFits (exchange b n s).2 := by
  have hwra := writeAndReadAck_sessionFits b h
  unfold exchange
  dsimp only
  split
  · exact payloadReads_sessionFits n (s := { (writeAndReadAck b s).2 with k := 0 })
      ⟨hwra.1, Nat.zero_le _, hwra.2.2⟩ (by simpa using hn)
  · exact hwra

theorem reportRead_sessionFits {n : Nat} (hn : n ≤ 3) {s : State} (h : SessionFits s) :
    SessionFits (reportRead n s) := by
  have hread := receiveByte_sessionFits (s := { s with k := n }) ⟨h.1, hn, h.2.2⟩
  unfold reportRead SessionFits at *
  simpa using hread

theorem reportReads_sessionFits {ns : List Nat} (hns : ∀ n ∈ ns, n ≤ 3) {s : State} (h : SessionFits s) :
    SessionFits (reportReads ns s) := by
  induction ns generalizing s with
  | nil => exact h
  | cons n rest ih =>
    obtain ⟨hn, hrest⟩ := List.forall_mem_cons.mp hns
    exact ih hrest (reportRead_sessionFits hn h)

theorem decodeReport_sessionFits {s : State} (h : SessionFits s) : SessionFits (decodeReport s) := h

theorem update_sessionFits {s : State} (h : SessionFits s) : SessionFits (update s) :=
  decodeReport_sessionFits (reportReads_sessionFits (by decide) (writeAndReadAck_sessionFits Config.cmdReadData h))

theorem beginFrom_sessionFits {ns : List Nat} (hns : ∀ n ∈ ns, n ≤ 6) {s : State} (h : SessionFits s) :
    SessionFits (beginFrom ns s).2 := by
  induction ns generalizing s with
  | nil => exact update_sessionFits h
  | cons n rest ih =>
    obtain ⟨hn, hrest⟩ := List.forall_mem_cons.mp hns
    have hx := exchange_sessionFits (initAt n) (payloadAt_le n) (s := { s with seq := n }) ⟨hn, h.2⟩
    unfold beginFrom
    dsimp only
    split
    · exact ih hrest hx
    · exact hx

theorem beginSession_sessionFits {s : State} (h : SessionFits s) : SessionFits (beginSession s).2 :=
  beginFrom_sessionFits (ns := initSteps) (by decide) h

theorem beginFrom_value_fits (ns : List Nat) (s : State) : codeFits (beginFrom ns s).1 := by
  induction ns generalizing s with
  | nil => show codeFits 1; decide
  | cons n rest ih =>
    unfold beginFrom
    dsimp only
    split
    · exact ih _
    · show codeFits 0; decide

/-- The end of a caller's operation that returns a value. -/
theorem answer_sessionFits {r : Int × State} {t : State} (h : answer r = .next t) (hs : SessionFits r.2)
    (hv : codeFits r.1) : SessionFits t := by
  cases h
  exact ⟨hs.1, hs.2.1, hv⟩

/-- The end of an operation that returns none. -/
theorem next_sessionFits {u t : State} (h : (.next u : Host.Outcome State Fault Refusal) = .next t)
    (hu : SessionFits u) : SessionFits t := by
  cases h
  exact hu

theorem exchange_answer_fits {b : Byte} {n : Nat} {s t : State} (h : answer (exchange b n s) = .next t) (hn : n ≤ 3)
    (hs : SessionFits s) : SessionFits t :=
  answer_sessionFits h (exchange_sessionFits b hn hs) (by rw [exchange_value]; exact writeAndReadAck_value_fits _ _)

/-- The session's registers stay in range in every instruction: no command has a payload longer than three bytes. -/
theorem exec_sessionFits {i : Instr} {s t : State} (h : SessionFits s) (hexec : exec i s = .next t) :
    SessionFits t := by
  cases i with
  | cmdReset | cmdSetDefaults | cmdSetRemoteMode | cmdStatusRequest | cmdReadData =>
    exact exchange_answer_fits hexec (by decide) h
  | cmdResend | cmdDisableDataReporting | cmdEnableDataReporting | cmdSetSampleRate | cmdGetDeviceId | cmdSetWrapMode
  | cmdResetWrapMode | cmdSetStreamMode | cmdSetResolution | opWra b =>
    exact answer_sessionFits hexec (writeAndReadAck_sessionFits _ h) (writeAndReadAck_value_fits _ _)
  | rspAck | frameD2H start data parity stop =>
    exact answer_sessionFits hexec (receiveByte_sessionFits (s := present _ s) h) (receiveByte_value_fits _)
  | frameH2D data ack =>
    exact answer_sessionFits hexec (sendByte_sessionFits data (s := present _ s) h) (sendByte_value_fits _ _)
  | reportFlags b | reportX b => exact next_sessionFits hexec (reportRead_sessionFits (by decide) (s := present _ s) h)
  | reportY b =>
    exact next_sessionFits hexec (decodeReport_sessionFits (reportRead_sessionFits (by decide) (s := present _ s) h))
  | opBegin => exact answer_sessionFits hexec (beginSession_sessionFits h) (beginFrom_value_fits initSteps s)
  | opUpdate => exact next_sessionFits hexec (update_sessionFits h)
  | reportZ b | opSetRes arg | opSetRate arg | opDelay n => exact next_sessionFits hexec h
  | opSend b => exact answer_sessionFits hexec (sendByte_sessionFits b h) (sendByte_value_fits _ _)
  | opRecv | opRead => exact answer_sessionFits hexec (receiveByte_sessionFits h) (receiveByte_value_fits _)
  | opRelease l | opDrive l v => exact next_sessionFits hexec (by cases l <;> exact h)
  | opRdlvl l => exact answer_sessionFits hexec h (bool_fits _)
  | opWait l v =>
    refine answer_sessionFits hexec ?_ (bool_fits _)
    rw [waitForLevel_frame]; exact h
  | reserved0 | reserved6 | reserved7 => cases hexec

/-! ## Every step -/

/-- An instruction runs on an idle block and leaves it idle. -/
theorem exec_within {i : Instr} {s t : State} (hidle : s.ctl.stack = []) (hn : NestingLegal s) (h : RegistersFit s)
    (hexec : exec i s = .next t) : WithinRanges t := by
  have hctl := (exec_keepsControl hexec).ctl
  obtain ⟨htransfer, hevent⟩ := instrKeeps_fits.exec hexec ⟨h.1, h.2.1⟩
  exact withinRanges_idle ⟨htransfer, hevent, exec_sessionFits h.2.2 hexec⟩ (by rw [hctl]; exact hidle)
    (by rw [hctl]; exact hn.2 hidle)

/-- A started operation's first point asks for nothing. -/
theorem startPoint_fits {i : Instr} {p : Point} (h : startPoint i = some p) (s : State) :
    pointRanges p s ∧ p ≠ .b2 := by
  cases i with
  | opBegin | opUpdate | opSend b | opRecv | opWra b | opRead => cases h; exact ⟨trivial, by simp⟩
  | _ => cases h

theorem startAt_within {p : Point} {rest : List Input} {s : State} (h : RegistersFit s)
    (hp : pointRanges p s ∧ p ≠ .b2) : WithinRanges (startAt p rest s) where
  registers := h
  ret _ hret := nomatch hret
  points := List.forall_mem_cons.mpr ⟨hp.1, fun _ hq => nomatch hq⟩
  payload := payloadRanges_cons rfl (fun hm => nomatch hm) fun hb2 => absurd hb2 hp.2

/-- Settles O56: the nest stays legal (O52), and the bounds hold after a tick (`tick_within`), a reset, an instruction
(`exec_within`) and at the first point of a started operation. -/
theorem everyStepKeepsTheRanges : Obligations.EveryStepKeepsTheRanges := by
  intro s t h hstep
  obtain ⟨hn, hw⟩ := (rangesFit_iff s).mp h
  refine (rangesFit_iff t).mpr ⟨everyStepKeepsTheNestLegal s t hn hstep, ?_⟩
  rcases step_cases hstep with ⟨rest, rfl⟩ | ⟨rest, rfl⟩ | ⟨rest, i, hidle, hexec⟩ | ⟨rest, i, p, -, hp, rfl⟩
  · exact tick_within (s := arrived rest s) hn ⟨hw.registers, hw.ret, hw.points, hw.payload⟩
  · exact withinRanges_idle ((rangesFit_iff _).mp reset_rangesFit).2.registers rfl rfl
  · exact exec_within (s := accept rest s) hidle hn hw.registers hexec
  · exact startAt_within hw.registers (startPoint_fits hp s)

end Sys2Proof.Machine
end

section
/-! PROOFS. Transfers with a device that clocks them, a lag of samples late at each wait (41_byte_transport.md R110 to
R120, 95_test_vectors.md section 1): the whole state after each part. -/

namespace Sys2Proof.Machine

/-! ## One clock cycle of a send -/

/-- The state after both waits of a slot that the device clocks. -/
def clocked (lag : Nat) (rest : List Pulls) (s : State) : State :=
  { s with count := lag, device := rest, trace := s.trace ++ cycleTrace lag }

/-- A slot of the bit loop against a device that clocks it. -/
theorem sendSlot_clocked {lag : Nat} {rest : List Pulls} {s : State} (n : Nat) (h : s.clock.mode = .released)
    (hd : s.device = clockPhase lag true ++ clockPhase lag false ++ rest) (hlag : lag ≤ Config.waitCeiling) :
    sendSlot n s = .going (clocked lag rest (putSlot { s with i := n })) := by
  have hput : (putSlot { s with i := n }).device = clockPhase lag true ++ (clockPhase lag false ++ rest) := by
    rw [putSlot_device, ← List.append_assoc]; exact hd
  rw [sendSlot, waitOr_phase true _ lag _ _ (by rw [putSlot_clock]; exact h) hput hlag, Progress.andThen_going,
    waitOr_phase false _ lag rest _ (by dsimp only; rw [putSlot_clock]; exact h) rfl hlag]
  simp [clocked, cycleTrace]

/-- The parity register after these data bits (R114). -/
def parityAfter (b : Byte) (p : Level) (ns : List Nat) : Level := ns.foldl (fun q n => q ^^ bitOf b n) p

theorem clockCycles_succ (lag m : Nat) (rest : List Pulls) :
    clockCycles lag (m + 1) ++ rest = clockPhase lag true ++ clockPhase lag false ++ (clockCycles lag m ++ rest) :=
  List.append_assoc _ _ _

/-- The data bits of the bit loop against a device that clocks them. -/
theorem sendSlots_data {lag : Nat} {rest : List Pulls} (m n : Nat) (hm : n + m ≤ 8) (hlag : lag ≤ Config.waitCeiling)
    {s : State} (h : s.clock.mode = .released) (hd : s.device = clockCycles lag m ++ rest) :
    ∃ p i c, sendSlots (List.range' n m) s = .going
      { s with
        data := p, i := i, count := c, par := parityAfter s.txb s.par (List.range' n m), device := rest,
        trace := s.trace ++ drivesTrace lag ((List.range' n m).map (bitOf s.txb)) } := by
  induction m generalizing n s with
  | zero =>
    have hrest : s.device = rest := hd
    exact ⟨s.data, s.i, s.count, by simp [sendSlots, parityAfter, drivesTrace, ← hrest]⟩
  | succ m ih =>
    have hslot := sendSlot_clocked n h (hd.trans (clockCycles_succ lag m rest)) hlag
    rw [putSlot_of_data (s := { s with i := n }) (show n ≤ 7 by omega)] at hslot
    obtain ⟨p, i, c, hrest⟩ := ih (n + 1) (by omega)
      (s := clocked lag (clockCycles lag m ++ rest)
        { driveLine .data (bitOf s.txb n) { s with i := n } with par := s.par ^^ bitOf s.txb n }) h rfl
    refine ⟨p, i, c, ?_⟩
    rw [List.range'_succ, sendSlots, hslot, Progress.andThen_going]
    refine hrest.trans (congrArg Progress.going ?_)
    simp [clocked, drivesTrace, parityAfter]

/-- The bit loop against a device that clocks it: every slot of the frame is on `DATA`, which the stop slot releases. -/
theorem sendSlots_clocked {lag : Nat} {rest : List Pulls} (hlag : lag ≤ Config.waitCeiling)
    {s : State} (h : s.clock.mode = .released) (hpar : s.par = true) (hd : s.device = clockCycles lag 10 ++ rest) :
    sendSlots txSlots s = .going
      { s with
        data := releasedPin, i := 9, par := oddParity s.txb, count := lag, device := rest,
        trace := s.trace ++ (drivesTrace lag [bitOf s.txb 0, bitOf s.txb 1, bitOf s.txb 2, bitOf s.txb 3,
          bitOf s.txb 4, bitOf s.txb 5, bitOf s.txb 6, bitOf s.txb 7, oddParity s.txb] ++
          [.release .data, .delay 50] ++ cycleTrace lag) } := by
  have hsplit : txSlots = List.range' 0 8 ++ [8, 9] := rfl
  have hcycles : clockCycles lag 10 ++ rest = clockCycles lag 8 ++ (clockCycles lag 2 ++ rest) := by
    simp [clockCycles]
  obtain ⟨p, i, c, hdata⟩ := sendSlots_data (lag := lag) 8 0 (by omega) hlag h (hd.trans hcycles)
  have hparity : parityAfter s.txb s.par (List.range' 0 8) = oddParity s.txb := by rw [hpar]; rfl
  have hslot8 : ∀ t : State, putSlot { t with i := 8 } = driveLine .data t.par { t with i := 8 } :=
    fun _ => putSlot_of_parity rfl
  have hslot9 : ∀ t : State, putSlot { t with i := 9 } = delayFor 50 (releaseLine .data { t with i := 9 }) :=
    fun _ => putSlot_of_stop (Nat.lt_succ_self 8)
  rw [hsplit, sendSlots_append, hdata, Progress.andThen_going, hparity, sendSlots,
    sendSlot_clocked 8 (by exact h) (clockCycles_succ lag 1 rest) hlag, Progress.andThen_going, sendSlots, hslot8,
    sendSlot_clocked 9 (by exact h) (clockCycles_succ lag 0 rest) hlag, Progress.andThen_going, sendSlots, hslot9]
  refine congrArg Progress.going ?_
  simp [clocked, drivesTrace, clockCycles, List.range'_succ, releasedPin]

/-- The events of a send up to its ack check. -/
def bitsTrace (lag : Nat) (b : Byte) : List Event :=
  [.release .data, .release .clock, .delay 300, .drive .clock false, .delay 200, .drive .data false, .delay 10,
    .release .clock, waited lag false] ++
  drivesTrace lag
    [bitOf b 0, bitOf b 1, bitOf b 2, bitOf b 3, bitOf b 4, bitOf b 5, bitOf b 6, bitOf b 7, oddParity b] ++
  [.release .data, .delay 50] ++ cycleTrace lag

theorem sendTrace_eq (lag : Nat) (b : Byte) :
    sendTrace lag b = bitsTrace lag b ++ [.sample .data false, waited lag true, .drive .clock false] := rfl

/-- Where a send stands when the ack is to be sampled. -/
def bitsSent (lag : Nat) (b : Byte) (rest : List Pulls) (s : State) : State :=
  { s with
    clock := releasedPin, data := releasedPin, txb := b, i := 9, par := oddParity b, count := lag, device := rest,
    trace := s.trace ++ bitsTrace lag b }

/-- A device that clocks the byte decides a send by its ack slot. -/
theorem sendByte_clocked {lag : Nat} {rest : List Pulls} {s : State} (b : Byte) (hlag : lag ≤ Config.waitCeiling)
    (hd : s.device = clockPhase lag false ++ clockCycles lag 10 ++ rest) :
    sendByte b s = (ackCheck (bitsSent lag b rest s)).toResult fun _ => Config.txOk := by
  have hfirst : (requestToSend b s).device = clockPhase lag false ++ (clockCycles lag 10 ++ rest) := by
    rw [← List.append_assoc]; exact hd
  rw [sendByte, waitOr_phase false _ lag _ _ rfl hfirst hlag, Progress.andThen_going,
    sendSlots_clocked (lag := lag) (rest := rest) hlag rfl rfl rfl, Progress.andThen_going]
  refine congrArg (fun t => (ackCheck t).toResult fun _ => Config.txOk) ?_
  simp [bitsSent, bitsTrace, requestToSend, releasedPin, Config.tIdleSettle, Config.tClkHold, Config.tBitSettle]

/-- A sample of `DATA`, released, whose level the device shows. -/
theorem sampleLine_data_shown {d : Level} {rest : List Pulls} {s : State} (h : s.data.mode = .released)
    (hd : s.device = dataAt d :: rest) :
    sampleLine .data s = (d, { s with device := rest, trace := s.trace ++ [.sample .data d] }) := by
  rw [sampleLine_released (l := .data) h]
  simp [nextPulls, hd, dataAt, pulledOf]

theorem ackCheck_refused_clocked {rest : List Pulls} {s : State} (h : s.data.mode = .released)
    (hd : s.device = dataAt true :: rest) :
    ackCheck s = .aborted Config.txErrAck { s with device := rest, trace := s.trace ++ [.sample .data true] } := by
  have hsample := sampleLine_data_shown h hd
  rw [ackCheck_refused (by rw [hsample]), hsample]

theorem ackCheck_acked_clocked {lag : Nat} {rest : List Pulls} {s : State} (hc : s.clock.mode = .released)
    (h : s.data.mode = .released) (hlag : lag ≤ Config.waitCeiling)
    (hd : s.device = dataAt false :: (clockPhase lag true ++ rest)) :
    ackCheck s = .going { s with
      clock := drivenPin false, count := lag, device := rest,
      trace := s.trace ++ [.sample .data false, waited lag true, .drive .clock false] } := by
  have hsample := sampleLine_data_shown h hd
  rw [ackCheck_acked (by rw [hsample]; exact Bool.false_ne_true), hsample]
  dsimp only
  rw [waitOr_phase true _ lag rest _ (by exact hc) rfl hlag, Progress.andThen_going]
  simp [driveLine, emit, drivenPin]

/-! ## Sends -/

theorem txAnswers_append (lag : Nat) (ack : Level) (rest : List Pulls) :
    txAnswers lag ack ++ rest =
      clockPhase lag false ++ clockCycles lag 10 ++ (dataAt ack :: (clockPhase lag true ++ rest)) := by
  simp [txAnswers, Config.nTxSlots]

/-- A send to a device that clocks the byte and leaves the ack slot at 1. -/
theorem sendByte_refused {lag : Nat} {rest : List Pulls} {s : State} (b : Byte) (hlag : lag ≤ Config.waitCeiling)
    (hd : s.device = txAnswers lag true ++ rest) :
    sendByte b s = (Config.txErrAck,
      { bitsSent lag b (clockPhase lag true ++ rest) s with
        trace := s.trace ++ (bitsTrace lag b ++ [.sample .data true]) }) := by
  rw [sendByte_clocked b hlag (hd.trans (txAnswers_append _ _ _)), ackCheck_refused_clocked rfl rfl]
  simp [bitsSent]

/-- A send to a device that clocks the byte and acknowledges it. -/
theorem sendByte_acked {lag : Nat} {rest : List Pulls} {s : State} (b : Byte) (hlag : lag ≤ Config.waitCeiling)
    (hd : s.device = txAnswers lag false ++ rest) :
    sendByte b s = (Config.txOk,
      { bitsSent lag b rest s with clock := drivenPin false, trace := s.trace ++ sendTrace lag b }) := by
  rw [sendByte_clocked b hlag (hd.trans (txAnswers_append _ _ _)), ackCheck_acked_clocked rfl rfl hlag rfl]
  simp [bitsSent, sendTrace_eq]

/-- Settles O14: the send runs to its ack check (`sendByte_clocked`), which aborts at the sample. -/
theorem sendWithoutAckAborts : Obligations.SendWithoutAckAborts := by
  intro s b lag rest hd hlag
  have hexec : exec (.opSend b) s = answer (sendByte b s) := rfl
  rw [hexec, sendByte_refused b hlag hd]
  exact ⟨_, rfl, rfl, rfl, rfl, rfl⟩

/-- What a send has put on `DATA` by its ack check: the release that begins it, then the frame. -/
theorem dataLine_bitsTrace (lag : Nat) (b : Byte) (es : List Event) :
    dataLine (bitsTrace lag b ++ es) = (true :: txFrame b) ++ dataLine es := rfl

/-- An item is shown at the front of the device's entries; all but what is used of them is as it was. -/
theorem SameSession.of_present {a : List Pulls} {s t : State} (h : SameSession (present a s) t) :
    SameSession { s with device := t.device } t :=
  ⟨h.rep, h.ev, h.seq, h.k, h.ctl, h.done, h.inbox, h.draws, ⟨0, rfl⟩, h.trace⟩

/-- Settles O19: the frame is on `DATA` by the ack check, which the device's ack slot decides (`sendByte_acked`,
`sendByte_refused`). -/
theorem hostFrameCarriesTheByte : Obligations.HostFrameCarriesTheByte := by
  intro s b ack
  have hexec : exec (.frameH2D b ack) s = answer (sendByte b (present (txAnswers 0 ack) s)) := rfl
  have hsame := ((sendByte_same b (present (txAnswers 0 ack) s)).1.trans
    (finish_same (sendByte b (present (txAnswers 0 ack) s)).1 _)).of_present
  cases ack
  · rw [sendByte_acked b (Nat.zero_le _) (present_device _ _), sendTrace_eq] at hsame hexec
    exact ⟨_, _, hexec, rfl, dataLine_bitsTrace _ _ _, rfl, rfl, rfl, rfl, rfl, hsame⟩
  · rw [sendByte_refused b (Nat.zero_le _) (present_device _ _)] at hsame hexec
    exact ⟨_, _, hexec, rfl, dataLine_bitsTrace _ _ _, rfl, rfl, rfl, rfl, rfl, hsame⟩

/-! ## The slots of a receive -/

theorem recvSlots_append (ms ns : List Nat) (s : State) :
    recvSlots (ms ++ ns) s = (recvSlots ms s).andThen (recvSlots ns) := by
  induction ms generalizing s with
  | nil => rfl
  | cons m rest ih =>
    simp only [List.cons_append, recvSlots, Progress.andThen_assoc]
    exact congrArg _ (funext ih)

theorem rxAnswers_append (lag : Nat) (ds es : List Level) :
    rxAnswers lag (ds ++ es) = rxAnswers lag ds ++ rxAnswers lag es := by
  induction ds with
  | nil => rfl
  | cons d rest ih => simp [rxAnswers, ih]

theorem slotsTrace_append (lag : Nat) (ds es : List Level) :
    slotsTrace lag (ds ++ es) = slotsTrace lag ds ++ slotsTrace lag es := by
  induction ds with
  | nil => rfl
  | cons d rest ih => simp [slotsTrace, ih]

/-- A slot that the device clocks: its level is what is checked. -/
theorem recvSlot_clocked {lag : Nat} {d : Level} {rest : List Pulls} {s : State} (n : Nat)
    (hc : s.clock.mode = .released) (h : s.data.mode = .released) (hlag : lag ≤ Config.waitCeiling)
    (hd : s.device = slotAnswers lag d ++ rest) :
    recvSlot n s = takeSlot d
      { s with i := n, count := lag, device := rest, trace := s.trace ++ slotsTrace lag [d] } := by
  have hphases : s.device = clockPhase lag false ++ (clockPhase lag true ++ (dataAt d :: rest)) := by
    rw [hd, slotAnswers]; simp
  rw [recvSlot, waitOr_phase false _ lag _ _ (by exact hc) (by exact hphases) hlag, Progress.andThen_going,
    waitOr_phase true _ lag (dataAt d :: rest) _ (by exact hc) rfl hlag, Progress.andThen_going]
  dsimp only
  rw [sampleLine_data_shown (by exact h) rfl]
  simp [slotsTrace]

/-! ## The bits of a byte -/

/-- `acc` and `ones` after the data slot that brings bit `n` of `b` (R117, R119). -/
def bitTaken (b : Byte) (r : Byte × Nat) (n : Nat) : Byte × Nat :=
  if bitOf b n then (setBit r.1 n, r.2 + 1) else r

/-- `acc` and `ones` after the data slots that bring these bits of `b`. -/
def bitsTaken (b : Byte) (ns : List Nat) (r : Byte × Nat) : Byte × Nat := ns.foldl (bitTaken b) r

theorem bitsTaken_cons (b : Byte) (n : Nat) (ns : List Nat) (r : Byte × Nat) :
    bitsTaken b (n :: ns) r = bitsTaken b ns (bitTaken b r n) := rfl

theorem getLsbD_setBit {n j : Nat} (acc : Byte) (hj : j < 8) :
    (setBit acc n).getLsbD j = (acc.getLsbD j || decide (j = n)) := by
  rw [setBit, BitVec.getLsbD_or, BitVec.getLsbD_shiftLeft, BitVec.getLsbD_one]
  by_cases hjn : j = n
  · subst hjn; simp [hj]
  · by_cases hlt : j < n
    · simp [hjn, hlt]
    · simp [hjn, show j - n ≠ 0 by omega]

theorem bitsTaken_bit (b : Byte) (ns : List Nat) (r : Byte × Nat) {j : Nat} (hj : j < 8) :
    (bitsTaken b ns r).1.getLsbD j = (r.1.getLsbD j || (decide (j ∈ ns) && bitOf b j)) := by
  induction ns generalizing r with
  | nil => simp [bitsTaken]
  | cons n rest ih =>
    rw [bitsTaken_cons, ih, bitTaken]
    by_cases hn : bitOf b n = true
    · rw [if_pos hn, getLsbD_setBit _ hj]
      by_cases hjn : j = n
      · subst hjn; simp [hn]
      · simp [hjn]
    · rw [if_neg hn]
      by_cases hjn : j = n
      · subst hjn; simp [hn]
      · simp [hjn]

theorem bitsTaken_ones (b : Byte) (ns : List Nat) (r : Byte × Nat) :
    (bitsTaken b ns r).2 = r.2 + (ns.map fun n => (bitOf b n).toNat).sum := by
  induction ns generalizing r with
  | nil => rfl
  | cons n rest ih =>
    rw [bitsTaken_cons, ih, bitTaken]
    cases hn : bitOf b n <;> simp [hn]
    omega

/-- The eight data bits, least significant first, make the byte again. -/
theorem bitsTaken_byte (b : Byte) : bitsTaken b (List.range' 0 8) (0, 0) = (b, popcount b) := by
  refine Prod.ext ?_ ?_
  · refine BitVec.eq_of_getLsbD_eq fun j hj => ?_
    rw [bitsTaken_bit b _ _ hj]
    simp [bitOf, List.mem_range', hj]
  · rw [bitsTaken_ones]
    simp [popcount, List.range'_succ]
    omega

/-! ## Receives -/

/-- Where a receive stands when it has sampled these slots, the last of which is slot `n`. -/
def received (lag n : Nat) (slots : List Level) (acc : Byte) (ones : Nat) (rest : List Pulls) (s : State) : State :=
  { s with
    clock := releasedPin, data := releasedPin, i := n, acc := acc, ones := ones, count := lag, device := rest,
    trace := s.trace ++ ([.release .clock, .release .data, .delay 10] ++ slotsTrace lag slots) }

theorem takeSlot_received {lag n : Nat} {slots : List Level} {acc : Byte} {ones : Nat} {rest : List Pulls} {s : State}
    {d : Level} {v : Byte × Nat} (h : slotVerdict n d acc ones = .ok v) :
    takeSlot d (received lag n slots acc ones rest s) = .going (received lag n slots v.1 v.2 rest s) :=
  takeSlot_ok (s := received lag n slots acc ones rest s) h

/-- Slots 0 to 8 of a frame, start and data. -/
def headSlots (start : Level) (data : Byte) : List Level := start :: (List.range' 0 8).map (bitOf data)

theorem frameSlots_eq (start : Level) (data : Byte) (parity stop : Level) :
    frameSlots start data parity stop = headSlots start data ++ [parity] ++ [stop] := rfl

section
variable {lag : Nat} (hlag : lag ≤ Config.waitCeiling) {s : State} {start parity stop : Level} {data : Byte}
  {rest : List Pulls}
include hlag

/-- The start slot is sampled. -/
theorem recvSlot_start (hd : s.device = slotAnswers lag start ++ rest) :
    recvSlot 0 (receiveStart s) = takeSlot start (received lag 0 [start] 0 0 rest s) := by
  rw [recvSlot_clocked (rest := rest) (s := receiveStart s) 0 rfl rfl hlag hd]
  simp [received, receiveStart, releasedPin, Config.tRxSettle]

/-- The next slot is sampled. -/
theorem recvSlot_received (n i : Nat) (slots : List Level) (d : Level) (acc : Byte) (ones : Nat) :
    recvSlot n (received lag i slots acc ones (slotAnswers lag d ++ rest) s) =
      takeSlot d (received lag n (slots ++ [d]) acc ones rest s) := by
  rw [recvSlot_clocked (rest := rest) n rfl rfl hlag rfl]
  simp [received, slotsTrace_append]

/-- The last slot is checked, and nothing follows it. -/
theorem recvSlots_last (n i : Nat) (slots : List Level) (d : Level) (acc : Byte) (ones : Nat) :
    recvSlots [n] (received lag i slots acc ones (rxAnswers lag [d] ++ rest) s) =
      takeSlot d (received lag n (slots ++ [d]) acc ones rest s) := by
  have hd : rxAnswers lag [d] ++ rest = slotAnswers lag d ++ rest := by simp [rxAnswers]
  rw [recvSlots, hd, recvSlot_received hlag]
  cases takeSlot d (received lag n (slots ++ [d]) acc ones rest s) <;> rfl

/-- The data slots collect their bits. -/
theorem recvSlots_data (m n : Nat) (hm : n + m ≤ 8) (slots : List Level) (r : Byte × Nat) :
    recvSlots (List.range' (n + 1) m)
        (received lag n slots r.1 r.2 (rxAnswers lag ((List.range' n m).map (bitOf data)) ++ rest) s) =
      .going (received lag (n + m) (slots ++ (List.range' n m).map (bitOf data))
        (bitsTaken data (List.range' n m) r).1 (bitsTaken data (List.range' n m) r).2 rest s) := by
  induction m generalizing n slots r with
  | zero => simp [recvSlots, bitsTaken, rxAnswers]
  | succ m ih =>
    have hv := slotVerdict_data (i := n + 1) (by omega) (by omega) (bitOf data n) r.1 r.2
    rw [List.range'_succ, List.range'_succ, List.map_cons, rxAnswers, List.append_assoc, recvSlots,
      recvSlot_received hlag, takeSlot_received hv, Progress.andThen_going]
    refine (ih (n + 1) (by omega) (slots ++ [bitOf data n]) (bitTaken data r n)).trans ?_
    simp [bitsTaken_cons, Nat.add_assoc, Nat.add_comm 1 m]

/-- The start slot is 0 and the data slots bring the byte. -/
theorem recvSlots_head (hd : s.device = rxAnswers lag (headSlots false data) ++ rest) :
    recvSlots (List.range 9) (receiveStart s) =
      .going (received lag 8 (headSlots false data) data (popcount data) rest s) := by
  have hsplit : List.range 9 = 0 :: List.range' (0 + 1) 8 := rfl
  rw [headSlots, rxAnswers, List.append_assoc] at hd
  have hstart := (recvSlot_start hlag hd).trans (takeSlot_received (v := (0, 0)) rfl)
  have hdata := recvSlots_data (data := data) (rest := rest) (s := s) hlag 8 0 (by omega) [false] (0, 0)
  rw [bitsTaken_byte] at hdata
  rw [hsplit, recvSlots, hstart, Progress.andThen_going]
  exact hdata

/-- Slots 0 to 8 are right, and the parity slot is checked. -/
theorem recvSlots_parity (hd : s.device = rxAnswers lag (headSlots false data ++ [parity]) ++ rest) :
    recvSlots (List.range 10) (receiveStart s) =
      takeSlot parity (received lag 9 (headSlots false data ++ [parity]) data (popcount data) rest s) := by
  have hsplit : List.range 10 = List.range 9 ++ [9] := rfl
  rw [rxAnswers_append, List.append_assoc] at hd
  rw [hsplit, recvSlots_append, recvSlots_head hlag hd, Progress.andThen_going, recvSlots_last hlag]

/-- Slots 0 to 9 are right, and the stop slot is checked. -/
theorem recvSlots_stop (hd : s.device = rxAnswers lag (frameSlots false data (oddParity data) stop) ++ rest) :
    recvSlots rxSlots (receiveStart s) =
      takeSlot stop (received lag 10 (frameSlots false data (oddParity data) stop) data (popcount data) rest s) := by
  have hsplit : rxSlots = List.range 10 ++ [10] := rfl
  have hv : slotVerdict 9 (oddParity data) data (popcount data) = .ok (data, popcount data) := by
    rw [slotVerdict_parity, parityAccepts_popcount, if_pos (by simp)]
  rw [frameSlots_eq, rxAnswers_append, List.append_assoc] at hd
  have hparity := (recvSlots_parity hlag hd).trans (takeSlot_received hv)
  rw [hsplit, recvSlots_append, hparity, Progress.andThen_going, recvSlots_last hlag, frameSlots_eq]

/-- A receive whose start slot is 1. -/
theorem receiveByte_badStart (hd : s.device = rxAnswers lag (frameSlots true data parity stop) ++ rest) :
    receiveByte s = (Config.rxErrStart,
      received lag 0 [true] 0 0 (rxAnswers lag ((frameSlots true data parity stop).drop 1) ++ rest) s) := by
  have hsplit : rxSlots = 0 :: List.range' 1 10 := rfl
  have hstart : s.device = slotAnswers lag true ++
    (rxAnswers lag ((frameSlots true data parity stop).drop 1) ++ rest) := by rw [← List.append_assoc]; exact hd
  rw [receiveByte, hsplit, recvSlots, recvSlot_start hlag hstart, takeSlot_error rfl]
  rfl

/-- A receive whose start slot is right and whose parity slot is not. -/
theorem receiveByte_badParity (hd : s.device = rxAnswers lag (frameSlots false data parity stop) ++ rest)
    (hp : parity ≠ oddParity data) :
    receiveByte s = (Config.rxErrParity,
      received lag 9 (headSlots false data ++ [parity]) data (popcount data) (rxAnswers lag [stop] ++ rest) s) := by
  have hsplit : rxSlots = List.range 10 ++ [10] := rfl
  have hv : slotVerdict 9 parity data (popcount data) = .error Config.rxErrParity := by
    rw [slotVerdict_parity, parityAccepts_popcount, if_neg (by simpa using hp)]
  rw [frameSlots_eq, rxAnswers_append, List.append_assoc] at hd
  rw [receiveByte, hsplit, recvSlots_append, recvSlots_parity hlag hd, takeSlot_error hv]
  rfl

/-- A receive whose stop slot only is wrong. -/
theorem receiveByte_badStop (hd : s.device = rxAnswers lag (frameSlots false data (oddParity data) false) ++ rest) :
    receiveByte s = (Config.rxErrStop,
      received lag 10 (frameSlots false data (oddParity data) false) data (popcount data) rest s) := by
  rw [receiveByte, recvSlots_stop hlag hd, takeSlot_error rfl]
  rfl

/-- A receive of the frame of a byte. -/
theorem receiveByte_frame (hd : s.device = byteAnswers lag data ++ rest) :
    receiveByte s = ((data.toNat : Int),
      { received lag 10 (txFrame data) data (popcount data) rest s with
        clock := drivenPin false, trace := s.trace ++ recvTrace lag data }) := by
  rw [receiveByte, recvSlots_stop hlag hd, takeSlot_received (v := (data, popcount data)) rfl]
  simp [received, recvTrace, txFrame, driveLine, emit, drivenPin]

end

/-- Settles O20: the frame of a byte passes every check (`receiveByte_frame`). -/
theorem receiveAssemblesTheByte : Obligations.ReceiveAssemblesTheByte := by
  intro s b lag rest hd hlag
  have hexec : exec .opRecv s = answer (receiveByte s) := rfl
  have hread : exec .opRead s = answer (receiveByte s) := rfl
  rw [hexec, hread, receiveByte_frame hlag hd]
  exact ⟨_, rfl, rfl, rfl⟩

/-- Settles O21: one case a check, in the order in which the slots come. -/
theorem receiveRejectsIllegalFramesAtTheirSlot : Obligations.ReceiveRejectsIllegalFramesAtTheirSlot := by
  intro s start parity stop data lag rest hd hlag
  have hexec : exec .opRecv s = answer (receiveByte s) := rfl
  have hsame := (receiveByte_same s).1.trans (finish_same (receiveByte s).1 _)
  cases start with
  | true =>
    rw [receiveByte_badStart hlag hd] at hexec hsame
    exact ⟨_, hexec, ⟨rfl, rfl, rfl⟩, rfl, rfl, hsame⟩
  | false =>
    by_cases hp : parity = oddParity data
    · subst hp
      cases stop with
      | false =>
        rw [receiveByte_badStop hlag hd] at hexec hsame
        refine ⟨_, hexec, ?_, rfl, rfl, hsame⟩
        rw [if_neg Bool.false_ne_true, if_neg (not_not.mpr rfl), if_pos rfl]
        exact ⟨rfl, rfl, rfl⟩
      | true =>
        rw [receiveByte_frame hlag hd] at hexec hsame
        refine ⟨_, hexec, ?_, rfl, (if_neg ?_).symm, hsame⟩
        · rw [if_neg Bool.false_ne_true, if_neg (not_not.mpr rfl), if_neg (by decide)]
          exact ⟨rfl, rfl, rfl⟩
        · exact Int.not_lt.mpr (Int.natCast_nonneg _)
    · rw [receiveByte_badParity hlag hd hp] at hexec hsame
      refine ⟨_, hexec, ?_, rfl, rfl, hsame⟩
      rw [if_neg Bool.false_ne_true, if_pos hp]
      exact ⟨rfl, rfl, rfl⟩

theorem validFrame_iff {start parity stop : Level} {data : Byte} :
    validFrame start data parity stop = true ↔ start = false ∧ parity = oddParity data ∧ stop = true := by
  cases start <;> cases stop <;> simp [validFrame]

/-- Settles O22: by O21 for its slots, clocked at once. -/
theorem deviceFrameIsTheReceiveOfItsSlots : Obligations.DeviceFrameIsTheReceiveOfItsSlots := by
  intro s start parity stop data
  obtain ⟨t, hexec, hslots, -⟩ := receiveRejectsIllegalFramesAtTheirSlot
    (present (rxAnswers 0 (frameSlots start data parity stop)) s) start parity stop data 0 s.device rfl (Nat.zero_le _)
  refine ⟨t, hexec, hexec, ?_⟩
  rw [validFrame_iff]
  have hfail : t.result < 0 → ¬ (start = false ∧ parity = oddParity data ∧ stop = true) →
      (start = false ∧ parity = oddParity data ∧ stop = true ↔ 0 ≤ t.result) ∧
        (0 ≤ t.result → t.result = (data.toNat : Int) ∧ t.device = s.device) := fun hneg hbad =>
    ⟨⟨fun hv => absurd hv hbad, fun h => absurd hneg (Int.not_lt.mpr h)⟩, fun h => absurd hneg (Int.not_lt.mpr h)⟩
  split at hslots
  · next hstart => exact hfail (by rw [hslots.1]; decide) (by simp [hstart])
  · next hstart =>
    split at hslots
    · next hparity => exact hfail (by rw [hslots.1]; decide) fun hv => hparity hv.2.1
    · next hparity =>
      split at hslots
      · next hstop => exact hfail (by rw [hslots.1]; decide) (by simp [hstop])
      · next hstop =>
        obtain ⟨hresult, -, hdevice⟩ := hslots
        have hvalid : start = false ∧ parity = oddParity data ∧ stop = true :=
          ⟨by simpa using hstart, not_not.mp hparity, by simpa using hstop⟩
        exact ⟨iff_of_true hvalid (by rw [hresult]; exact Int.natCast_nonneg _), fun _ => ⟨hresult, hdevice⟩⟩

end Sys2Proof.Machine
end

section
/-! PROOFS. The line transport (40_line_transport.md): the lines after RELEASE and DRIVE, the level of a sample, where a
wait ends, and what a failed one does to the operation that called it. -/

namespace Sys2Proof.Machine

/-! ## RELEASE and DRIVE (R100, R101) -/

theorem readPin_emit (l : Line) (e : Event) (s : State) : readPin l (emit e s) = readPin l s := by
  cases l <;> rfl

/-- A line set and the event recorded: that line, the other one, and the frame. -/
theorem emit_setPin_frame (l : Line) (p : Pin) (e : Event) (s : State) :
    readPin l (emit e (setPin l p s)) = p ∧
    (∀ l', l' ≠ l → readPin l' (emit e (setPin l p s)) = readPin l' s) ∧
    emit e (setPin l p s) =
      { s with
        clock := (emit e (setPin l p s)).clock
        data := (emit e (setPin l p s)).data
        trace := s.trace ++ [e] } := by
  refine ⟨?_, fun l' h => ?_, ?_⟩
  · rw [readPin_emit, readPin_setPin_same]
  · rw [readPin_emit, readPin_setPin_other h]
  · cases l <;> rfl

/-- Settles O7: RELEASE sets the line's registers and records its event. -/
theorem releaseFloatsTheLine : Obligations.ReleaseFloatsTheLine := fun l s =>
  ⟨releaseLine l s, rfl, emit_setPin_frame l ⟨.released, true⟩ (.release l) s⟩

/-- Settles O8: DRIVE sets the line's registers and records its event. -/
theorem driveForcesTheLevel : Obligations.DriveForcesTheLevel := fun l v s =>
  ⟨driveLine l v s, rfl, emit_setPin_frame l ⟨.driven, v⟩ (.drive l v) s⟩

/-! ## DELAY and RDLVL (R102, R103) -/

/-- Settles O9: a delay is its event and nothing else. -/
theorem delayChangesNoState : Obligations.DelayChangesNoState := fun _ _ => rfl

theorem levelOf_released {p : Pin} (h : p.mode = .released) (pulled : Bool) (n : Nat) :
    levelOf p pulled n = !pulled := by
  rw [levelOf, h]

/-- A driven line that is not contended reads what it is driven to (D3). -/
theorem levelOf_driven {p : Pin} {pulled : Bool} (h : p.mode = .driven) (hfree : p.out = true → pulled = false)
    (n : Nat) : levelOf p pulled n = p.out := by
  have hnot : (p.out && pulled) = false := by
    cases hout : p.out with
    | false => rfl
    | true => exact hfree hout
  simp only [levelOf, h, hnot, Bool.false_eq_true, if_false]

/-- Settles O10: RDLVL answers the level of its sample, which `levelOf` gives. -/
theorem readLevelIsTheLineLevel : Obligations.ReadLevelIsTheLineLevel := fun l s =>
  ⟨(sampleLine l s).1, ⟨finish (sampleLine l s).1.toNat (sampleLine l s).2, rfl, rfl⟩,
    fun hmode => levelOf_released hmode _ _, fun hmode hfree => levelOf_driven hmode hfree _⟩

/-! ## WAIT (R104) -/

/-- A wait whose first sample of the awaited level is number `n`. -/
theorem waitForLevel_succeeds {l : Line} {v : Level} {budget n : Nat} {s : State} (hn : n ≤ budget)
    (hmatch : levelAtSample l n s = v) (hbefore : ∀ m < n, levelAtSample l m s ≠ v) :
    waitForLevel l v budget s =
      (true, { afterSamples l (n + 1) s with count := n, trace := s.trace ++ [waitEvent l v true n] }) := by
  have hends := (pollFrom_ends l v budget { s with count := 0 } s.device rfl (Nat.zero_le _)).1 n
  simp only [levelAtSample_set_count, afterSamples_set_count, Nat.zero_add] at hends
  rw [waitForLevel, hends hn hmatch hbefore]
  simp only [emit, afterSamples_trace]

/-- A wait none of whose samples is the awaited level. -/
theorem waitForLevel_fails {l : Line} {v : Level} {budget : Nat} {s : State}
    (hnever : ∀ n ≤ budget, levelAtSample l n s ≠ v) :
    waitForLevel l v budget s =
      (false, { afterSamples l (budget + 1) s with
        count := budget + 1, trace := s.trace ++ [waitEvent l v false (budget + 1)] }) := by
  have hends := (pollFrom_ends l v budget { s with count := 0 } s.device rfl (Nat.zero_le _)).2
  simp only [levelAtSample_set_count, afterSamples_set_count, Nat.zero_add, Nat.sub_zero] at hends
  rw [waitForLevel, hends hnever]
  simp only [emit, afterSamples_trace]

theorem lt_maxSamples {n : Nat} : n < Config.maxSamples ↔ n ≤ Config.waitCeiling := Nat.lt_succ_iff

/-- The event of a wait that has taken all its samples. -/
theorem waitEvent_exhausted (l : Line) (v : Level) :
    waitEvent l v false Config.maxSamples =
      .wait l v false Config.maxSamples (Config.waitCeiling * Config.tPoll) := by
  rw [waitEvent_failed, maxSamples_eq, Nat.add_sub_cancel]

/-- WAIT writes the outcome of its wait to the result, over any state `t` (the kernel is not to run through the samples
that `afterSamples` stands for). -/
theorem exec_opWait {l : Line} {v : Level} {s t : State} {ok : Bool} {n : Nat}
    (h : waitForLevel l v Config.waitCeiling s =
      (ok, { t with count := n, trace := s.trace ++ [waitEvent l v ok n] })) :
    exec (.opWait l v) s = .next
      { t with count := n, result := ok.toNat, valued := true, trace := s.trace ++ [waitEvent l v ok n] } := by
  have hexec : exec (.opWait l v) s =
    answer ((waitForLevel l v Config.waitCeiling s).1.toNat, (waitForLevel l v Config.waitCeiling s).2) := rfl
  rw [hexec, h]
  rfl

/-- Settles O11: the two ends of the poll loop (`pollFrom_ends`), from the start of a wait. -/
theorem waitEndsAtFirstMatchingSample : Obligations.WaitEndsAtFirstMatchingSample := by
  intro l v s
  constructor
  · intro n hn hmatch hbefore
    exact exec_opWait (waitForLevel_succeeds (lt_maxSamples.mp hn) hmatch hbefore)
  · intro hnever
    have hexec := exec_opWait (waitForLevel_fails fun n hn => hnever n (lt_maxSamples.mpr hn))
    rw [← maxSamples_eq, waitEvent_exhausted] at hexec
    exact hexec

/-! ## A failed wait (R106) -/

/-- The call sites of a wait, each with the code of its abort at slot `i` (60_exceptions.md R170; D6, D7). -/
def waitSites (i : Nat) : List (Point × Int) :=
  [(.s8, Config.txErrClkFall), (.s10, Config.txErrBitHigh i), (.s11, Config.txErrBitLow i),
    (.s13, Config.txErrEndClk), (.v3, Config.rxErrClkLow i), (.v4, Config.rxErrClkHigh i)]

theorem waitSites_of_calls {p : Point} (h : calls p = some .wait) (i : Nat) : ∃ code, (p, code) ∈ waitSites i := by
  cases p
  case s8 | s10 | s11 | s13 | v3 | v4 => simp [waitSites]
  all_goals cases h

theorem tick_resume {s : State} {p : Point} {rest : List Point} {v : Int} (h : s.ctl = ⟨p :: rest, some v⟩) :
    tick s = resumePoint p v rest s := by
  rw [tick, h]

theorem resumePoint_failedWait {s : State} {p : Point} {code : Int} (h : (p, code) ∈ waitSites s.i)
    (rest : List Point) : resumePoint p 0 rest s = abortTo rest code s := by
  simp only [waitSites, List.mem_cons, Prod.mk.injEq, List.not_mem_nil, or_false] at h
  rcases h with ⟨rfl, rfl⟩ | ⟨rfl, rfl⟩ | ⟨rfl, rfl⟩ | ⟨rfl, rfl⟩ | ⟨rfl, rfl⟩ | ⟨rfl, rfl⟩ <;> rfl

/-- Settles O43: at every call site the value false is taken by an abort (`resumePoint_failedWait`). -/
theorem failedWaitAbortsAtOnce : Obligations.FailedWaitAbortsAtOnce := by
  refine ⟨fun p h i => waitSites_of_calls h i, fun s p rest code hin hctl hsite => ?_⟩
  rw [step_no_input hin, tick_resume hctl, resumePoint_failedWait hsite, abortTo_eq]
  cases rest with
  | nil => exact ⟨fun _ => rfl, fun h => absurd rfl h⟩
  | cons q below => exact ⟨fun h => (nomatch h), fun _ => rfl⟩

end Sys2Proof.Machine
end

section
/-! PROOFS. The lines at the control points (41_byte_transport.md R110, R117, R125): a wait is called where `CLOCK` is
released, and `DATA` is sampled where it is. -/

namespace Sys2Proof.Machine

/-! ## Points that ask for nothing -/

/-- What a point asks of the lines rests on the two lines and the send index. -/
theorem pointLines_of_same {p : Point} {s t : State} (hc : t.clock = s.clock) (hd : t.data = s.data) (hi : t.i = s.i)
    (h : pointLines p s) : pointLines p t := by
  have hpin : ∀ l, readPin l t = readPin l s := by
    intro l; cases l
    · exact hc
    · exact hd
  unfold pointLines at *
  simpa only [hpin, hc, hd, hi] using h

/-- Above the byte operations no point asks anything of the lines. -/
theorem pointLines_of_rank {p : Point} (h : 2 ≤ nestRank (operationOf p)) (s : State) : pointLines p s := by
  cases p with
  | a0 b | a1 | d0 | b0 | b1 | b2 | b3 | b4 | u0 | u1 | u2 => trivial
  | _ => simp [operationOf, nestRank] at h

/-- The first point of an operation asks nothing of the lines: it releases them itself. -/
theorem startPoint_pointLines {i : Instr} {p : Point} (h : startPoint i = some p) (s : State) : pointLines p s := by
  cases i with
  | opBegin | opUpdate | opSend b | opRecv | opWra b | opRead => cases h; trivial
  | _ => cases h

/-! ## Below the active point -/

/-- The lines are right for each of these points. -/
def StackLines (ps : List Point) (s : State) : Prop := ∀ p ∈ ps, pointLines p s

theorem StackLines.of_same {ps : List Point} {s t : State} (h : StackLines ps s) (hc : t.clock = s.clock)
    (hd : t.data = s.data) (hi : t.i = s.i) : StackLines ps t := fun p hp => pointLines_of_same hc hd hi (h p hp)

/-- Below a byte operation, and below all that stands above one, no point asks anything of the lines. -/
theorem stackLines_below {p : Point} {rest : List Point} (hn : nestedCalls (p :: rest)) (hp : operationOf p ≠ .wait)
    (s : State) : StackLines rest s := fun q hq =>
  pointLines_of_rank (Nat.lt_of_le_of_lt (nestRank_pos hp) (nestedCalls_below hn q hq).2) s

/-! ## Where a tick can go -/

section
variable {rest : List Point} {t : State} (hb : StackLines rest t)
include hb

/-- The operation goes on at another of its points. -/
theorem goto_stackLines {q : Point} (hq : pointLines q t) : StackLines (goto q rest t).ctl.stack (goto q rest t) :=
  StackLines.of_same (s := t) (List.forall_mem_cons.mpr ⟨hq, hb⟩) rfl rfl rfl

/-- It calls another. -/
theorem call_stackLines {c p : Point} (hc : pointLines c t) (hp : pointLines p t) :
    StackLines (callPoint c p rest t).ctl.stack (callPoint c p rest t) :=
  StackLines.of_same (s := t) (List.forall_mem_cons.mpr ⟨hc, List.forall_mem_cons.mpr ⟨hp, hb⟩⟩) rfl rfl rfl

/-- It ends. -/
theorem returnTo_stackLines (v : Int) : StackLines (returnTo rest v t).ctl.stack (returnTo rest v t) := by
  cases rest with
  | nil => exact fun _ hq => nomatch hq
  | cons p below => exact hb.of_same rfl rfl rfl

theorem returnResult_stackLines (v : Int) : StackLines (returnResult rest v t).ctl.stack (returnResult rest v t) := by
  cases rest with
  | nil => exact fun _ hq => nomatch hq
  | cons p below => exact hb.of_same rfl rfl rfl

end

/-! ## Every tick -/

/-- The stop slot releases `DATA`. -/
theorem putSlot_stop_data {s : State} (h : 9 ≤ s.i) : (putSlot s).data.mode = .released := by
  rw [putSlot_of_stop h]; rfl

/-- A tick of a wait moves no line, whatever its sample. -/
theorem runPoint_wait_stackLines {p : Point} {rest : List Point} {s : State} (hw : operationOf p = .wait)
    (hb : StackLines rest s) (hp : pointLines p s) :
    StackLines (runPoint p rest s).ctl.stack (runPoint p rest s) := by
  cases p with
  | w0 l v => exact goto_stackLines (by exact hb.of_same rfl rfl rfl) hp
  | w1 l v =>
    simp only [runPoint]
    split
    · exact returnResult_stackLines (by exact hb.of_same rfl rfl rfl) _
    · split
      · exact returnResult_stackLines (by exact hb.of_same rfl rfl rfl) _
      · exact goto_stackLines (by exact hb.of_same rfl rfl rfl) hp
  | w2 l v => exact goto_stackLines hb hp
  | _ => cases hw

section
variable {p : Point} {rest : List Point} {s : State} (hn : nestedCalls (p :: rest)) (hb : StackLines rest s)
  (hp : pointLines p s)
include hn hb hp

/-- The action of a point leaves the lines right for the points active after it. -/
theorem runPoint_stackLines : StackLines (runPoint p rest s).ctl.stack (runPoint p rest s) := by
  by_cases hw : operationOf p = .wait
  · exact runPoint_wait_stackLines hw hb hp
  have hbelow : ∀ t, StackLines rest t := stackLines_below hn hw
  cases p <;> simp only [runPoint, abortTo_eq]
  case w0 | w1 | w2 => exact absurd rfl hw
  case s0 | s7 | v0 => exact goto_stackLines (hbelow _) rfl
  case s1 => exact goto_stackLines (hbelow _) ⟨rfl, hp⟩
  case v1 => exact goto_stackLines (hbelow _) ⟨hp, rfl⟩
  case s2 | v2 => exact goto_stackLines (hbelow _) hp
  case s9 =>
    refine goto_stackLines (hbelow _) ⟨by rw [putSlot_clock]; exact hp, fun h => ?_⟩
    rw [putSlot_i] at h
    exact putSlot_stop_data h
  case s8 => exact call_stackLines (hbelow _) hp hp
  case s10 | s11 | s13 | v3 | v4 => exact call_stackLines (hbelow _) hp.1 hp
  case s12 =>
    split
    · exact returnResult_stackLines (hbelow _) _
    · exact goto_stackLines (hbelow _) hp
  case v5 =>
    rcases takeSlot_frame (sampleLine .data s).1 (sampleLine .data s).2 with ⟨a, o, hv⟩ | ⟨c, hv⟩ <;> rw [hv]
    · dsimp only
      split <;> exact goto_stackLines (hbelow _) hp
    · exact returnResult_stackLines (hbelow _) _
  case s14 | v6 => exact returnResult_stackLines (hbelow _) _
  case u2 => exact returnTo_stackLines (hbelow _) _
  case b2 => split; exacts [call_stackLines (hbelow _) trivial trivial, goto_stackLines (hbelow _) trivial]
  case b3 => split <;> exact goto_stackLines (hbelow _) trivial
  case s3 | s4 | s5 | s6 | b0 => exact goto_stackLines (hbelow _) trivial
  case a0 | a1 | d0 | b1 | b4 | u0 | u1 => exact call_stackLines (hbelow _) trivial trivial

/-- Taking a value leaves the lines right: the bit loop ends at its last slot, where `DATA` is released. -/
theorem resumePoint_stackLines (v : Int) : StackLines (resumePoint p v rest s).ctl.stack (resumePoint p v rest s) := by
  cases p <;> simp only [resumePoint, abortTo_eq]
  case s8 =>
    split
    · exact goto_stackLines (stackLines_below hn (by decide) _) hp
    · exact returnResult_stackLines hb _
  case s10 | s13 | v3 | v4 => split; exacts [goto_stackLines hb hp, returnResult_stackLines hb _]
  case s11 =>
    split
    · split
      · exact goto_stackLines (stackLines_below hn (by decide) _) hp.1
      · next hlast => exact goto_stackLines hb ⟨hp.1, hp.2 (Nat.le_of_lt_succ (Nat.not_lt.mp hlast))⟩
    · exact returnResult_stackLines hb _
  case a0 => split; exacts [returnResult_stackLines hb _, goto_stackLines hb trivial]
  case a1 => split <;> exact returnResult_stackLines hb _
  case d0 | b4 => exact returnResult_stackLines hb _
  case b1 =>
    split
    · exact goto_stackLines (stackLines_below hn (by decide) _) trivial
    · exact returnResult_stackLines hb _
  case b2 | u0 => exact goto_stackLines (stackLines_below hn (by decide) _) trivial
  case u1 => split <;> exact goto_stackLines (stackLines_below hn (by decide) _) trivial
  all_goals exact goto_stackLines hb hp

end

theorem linesFit_idle {s : State} (hn : NestingLegal s) (h : s.ctl.stack = []) : LinesFit s :=
  ⟨hn, by rw [h]; exact fun _ hq => nomatch hq⟩

theorem tick_stackLines {s : State} (h : LinesFit s) : StackLines (tick s).ctl.stack (tick s) := by
  obtain ⟨⟨hn, -⟩, hlines⟩ := h
  cases hs : s.ctl.stack with
  | nil => rw [tick_idle hs]; exact hlines
  | cons p rest =>
    rw [hs] at hn hlines
    obtain ⟨hp, hb⟩ := List.forall_mem_cons.mp hlines
    unfold tick
    rw [hs]
    cases s.ctl.ret with
    | none => exact runPoint_stackLines hn hb hp
    | some v => exact resumePoint_stackLines hn hb hp v

/-- Settles O54: the nest stays legal (O52), and the lines are right after a tick (`tick_stackLines`) and at the first
point of a started operation; after a reset and an instruction the block is idle. -/
theorem everyStepKeepsTheLinesFit : Obligations.EveryStepKeepsTheLinesFit := by
  intro s t h hstep
  have hnest : NestingLegal t := everyStepKeepsTheNestLegal s t h.1 hstep
  rcases step_cases hstep with ⟨rest, rfl⟩ | ⟨rest, rfl⟩ | ⟨rest, i, hidle, hexec⟩ | ⟨rest, i, p, -, hp, rfl⟩
  · have harrived : StackLines s.ctl.stack (arrived rest s) := StackLines.of_same h.2 rfl rfl rfl
    exact ⟨hnest, tick_stackLines (s := arrived rest s) ⟨h.1, harrived⟩⟩
  · exact linesFit_idle hnest rfl
  · exact linesFit_idle hnest (by rw [(exec_keepsControl hexec).ctl]; exact hidle)
  · exact ⟨hnest, List.forall_mem_cons.mpr ⟨startPoint_pointLines hp _, fun _ hq => nomatch hq⟩⟩

/-! ## The line that is sampled -/

/-- The points whose tick samples a line: W1 its own, S12 and V5 `DATA`. -/
theorem samplesNext_cases {s : State} {l : Line} (h : samplesNext s = some l) :
    (∃ v, .w1 l v ∈ s.ctl.stack) ∨ (l = .data ∧ (.s12 ∈ s.ctl.stack ∨ .v5 ∈ s.ctl.stack)) := by
  unfold samplesNext at h
  split at h
  · next v _ hs _ => cases h; exact .inl ⟨v, by rw [hs]; exact .head _⟩
  · next hs _ => cases h; exact .inr ⟨rfl, .inl (by rw [hs]; exact .head _)⟩
  · next hs _ => cases h; exact .inr ⟨rfl, .inr (by rw [hs]; exact .head _)⟩
  · cases h

/-- Settles O55: at each of the points that sample, `LinesFit` says the line is released. -/
theorem noDrivenLineIsSampled : Obligations.NoDrivenLineIsSampled := by
  intro s l ⟨_, hlines⟩ hsample
  rcases samplesNext_cases hsample with ⟨v, hw1⟩ | ⟨rfl, hs12 | hv5⟩
  · exact hlines _ hw1
  · exact (hlines _ hs12).2
  · exact (hlines _ hv5).2

end Sys2Proof.Machine
end

section
/-! PROOFS. Whole transfers (41_byte_transport.md R110 to R120, R124): with a device that clocks them, with one that
never lowers the clock, and with one wrong slot. -/

namespace Sys2Proof.Machine

/-! ## The instructions as their operations -/

theorem exec_opSend (b : Byte) (s : State) : exec (.opSend b) s = answer (sendByte b s) := rfl

theorem exec_opRecv (s : State) : exec .opRecv s = answer (receiveByte s) := rfl

theorem exec_opWra (b : Byte) (s : State) : exec (.opWra b) s = answer (writeAndReadAck b s) := rfl

theorem exec_frameD2H (start : Level) (data : Byte) (parity stop : Level) (s : State) :
    exec (.frameD2H start data parity stop) s =
      answer (receiveByte (present (rxAnswers 0 (frameSlots start data parity stop)) s)) := rfl

/-! ## A device that clocks the transfer -/

/-- Settles O12: by the send's state after its acknowledgment (`sendByte_acked`). -/
theorem sendToAClockingDeviceSucceeds : Obligations.SendToAClockingDeviceSucceeds := by
  intro s b lag rest hd hlag
  rw [exec_opSend, sendByte_acked b hlag hd]
  rfl

/-! ## A device that never lowers the clock (R113, R117) -/

theorem levelAtSample_neverPulled {s : State} (hmode : s.clock.mode = .released) (h : clockNeverPulled s) {n : Nat}
    (hn : n < Config.maxSamples) : levelAtSample .clock n s = true := by
  have hpull := h n hn
  rw [List.getD_eq_getElem?_getD, ← List.head?_drop, ← List.headD_eq_head?_getD] at hpull
  rw [levelAtSample_released .clock n s hmode, pulledOf, hpull]
  rfl

/-- A wait for `CLOCK` = 0 takes all its samples, and the operation aborts. -/
theorem waitOr_neverPulled (code : Int) {s : State} (hmode : s.clock.mode = .released) (h : clockNeverPulled s) :
    waitOr .clock false code s = .aborted code
      { s with
        count := Config.maxSamples, device := s.device.drop Config.maxSamples,
        trace := s.trace ++ [clockNeverFell] } := by
  have hwait := waitForLevel_fails (l := .clock) (v := false) (budget := Config.waitCeiling) (s := s) fun n hn => by
    rw [levelAtSample_neverPulled hmode h (lt_maxSamples.mpr hn)]; decide
  rw [← maxSamples_eq, waitEvent_exhausted, afterSamples_released .clock _ s hmode] at hwait
  rw [waitOr_eq, hwait]
  rfl

/-- Settles O13: the request-to-send, and the wait that ends it. -/
theorem sendWithoutClockFallAborts : Obligations.SendWithoutClockFallAborts := by
  intro s b h
  rw [exec_opSend, sendByte, waitOr_neverPulled _ (s := requestToSend b s) rfl h]
  refine ⟨_, rfl, rfl, rfl, rfl, ?_⟩
  simp [requestToSend, finish]

/-- Settles O24: the start of the receive, and the first wait of its first slot. -/
theorem receiveWithoutClockAborts : Obligations.ReceiveWithoutClockAborts := by
  intro s h
  have hsplit : rxSlots = 0 :: List.range' 1 10 := rfl
  rw [exec_opRecv, receiveByte, hsplit, recvSlots, recvSlot,
    waitOr_neverPulled _ (s := { receiveStart s with i := 0 }) rfl h]
  refine ⟨_, rfl, rfl, rfl, rfl, ?_⟩
  simp [receiveStart, finish]

/-! ## The round trip and single errors (R124) -/

theorem parityAfter_xor (b c : Byte) (p q : Level) (ns : List Nat) :
    parityAfter (b ^^^ c) (p ^^ q) ns = (parityAfter b p ns ^^ parityAfter c q ns) := by
  induction ns generalizing p q with
  | nil => rfl
  | cons n rest ih =>
    have hstep : ((p ^^ q) ^^ bitOf (b ^^^ c) n) = ((p ^^ bitOf b n) ^^ (q ^^ bitOf c n)) := by
      rw [bitOf, BitVec.getLsbD_xor, ← bitOf, ← bitOf, Bool.xor_assoc, Bool.xor_assoc, Bool.xor_left_comm q]
    exact (congrArg (parityAfter (b ^^^ c) · rest) hstep).trans (ih _ _)

/-- Flipping one bit of a byte flips its parity. -/
theorem oddParity_flip {n : Nat} (hn : n < 8) (b : Byte) : oddParity (b ^^^ (1#8 <<< n)) = !oddParity b := by
  have hbit : ∀ m < 8, parityAfter (1#8 <<< m) false (List.range' 0 8) = true := by decide
  have hxor := parityAfter_xor b (1#8 <<< n) true false (List.range' 0 8)
  rw [hbit n hn, Bool.xor_true] at hxor
  exact hxor

theorem frameD2H_badParity (s : State) {data : Byte} {parity : Level} (stop : Level) (hp : parity ≠ oddParity data) :
    ∃ t, exec (.frameD2H false data parity stop) s = .next t ∧ t.result = Config.rxErrParity := by
  rw [exec_frameD2H, receiveByte_badParity (Nat.zero_le _) (present_device _ _) hp]
  exact ⟨_, rfl, rfl⟩

/-- Settles O23: the checks of a receive, slot by slot; one data bit flipped makes the parity slot wrong. -/
theorem frameRoundTripAndSingleErrors : Obligations.FrameRoundTripAndSingleErrors := by
  intro s b
  refine ⟨?trip, ?start, fun n hn => frameD2H_badParity s true ?flip, frameD2H_badParity s true (by simp), ?stop⟩
  case trip =>
    have hrecv := receiveByte_frame (Nat.zero_le _) (present_device (byteAnswers 0 b) s)
    rw [byteAnswers, txFrame] at hrecv
    rw [exec_frameD2H, hrecv]
    exact ⟨_, rfl, rfl⟩
  case start =>
    rw [exec_frameD2H, receiveByte_badStart (Nat.zero_le _) (present_device _ _)]
    exact ⟨_, rfl, rfl⟩
  case flip => rw [oddParity_flip hn]; simp
  case stop =>
    rw [exec_frameD2H, receiveByte_badStop (Nat.zero_le _) (present_device _ _)]
    exact ⟨_, rfl, rfl⟩

end Sys2Proof.Machine
end

section
/-! PROOFS. A receive does not look at the caller's last result (10_state.md R32; log 17): part by part, it commutes
with `finish`. -/

namespace Sys2Proof.Machine

/-- The same progress at a changed state. -/
def Progress.map (f : State → State) : Progress → Progress
  | .going s => .going (f s)
  | .aborted code s => .aborted code (f s)

theorem Progress.map_andThen {f : State → State} {p : Progress} {g : State → Progress}
    (h : ∀ s, g (f s) = (g s).map f) : (p.map f).andThen g = (p.andThen g).map f := by
  cases p with
  | going s => exact h s
  | aborted c s => rfl

theorem look_finish (l : Line) (v : Int) (s : State) : look l (finish v s) = ((look l s).1, finish v (look l s).2) := by
  cases l <;> rfl

theorem pollFrom_finish (l : Line) (v : Level) (budget : Nat) (d : List Pulls) (w : Int) (s : State) :
    pollFrom l v budget d (finish w s) = ((pollFrom l v budget d s).1, finish w (pollFrom l v budget d s).2) := by
  induction d generalizing s with
  | nil =>
    have hpin : readPin l (finish w s) = readPin l s := by cases l <;> rfl
    simp only [pollFrom, hpin, finish_draws]
    split <;> rfl
  | cons p rest ih =>
    simp only [pollFrom, look_finish, finish_count]
    split
    · rfl
    · split
      · rfl
      · exact ih { (look l s).2 with count := (look l s).2.count + 1 }

theorem waitForLevel_finish (l : Line) (v : Level) (budget : Nat) (w : Int) (s : State) :
    waitForLevel l v budget (finish w s) =
      ((waitForLevel l v budget s).1, finish w (waitForLevel l v budget s).2) := by
  have hpoll := pollFrom_finish l v budget s.device w { s with count := 0 }
  simp only [waitForLevel]
  exact congrArg (fun r : Bool × State => (r.1, emit (waitEvent l v r.1 r.2.count) r.2)) hpoll

theorem waitOr_finish (l : Line) (v : Level) (code w : Int) (s : State) :
    waitOr l v code (finish w s) = (waitOr l v code s).map (finish w) := by
  rw [waitOr_eq, waitForLevel_finish, waitOr_eq]
  dsimp only
  split <;> rfl

theorem takeSlot_finish (d : Level) (w : Int) (s : State) :
    takeSlot d (finish w s) = (takeSlot d s).map (finish w) := by
  cases hv : slotVerdict s.i d s.acc s.ones with
  | ok v => rw [takeSlot_ok (s := finish w s) hv, takeSlot_ok hv]; rfl
  | error c => rw [takeSlot_error (s := finish w s) hv, takeSlot_error hv]; rfl

theorem recvSlot_finish (n : Nat) (w : Int) (s : State) : recvSlot n (finish w s) = (recvSlot n s).map (finish w) := by
  have hlow := waitOr_finish .clock false (Config.rxErrClkLow n) w { s with i := n }
  rw [recvSlot, recvSlot, ← Progress.map_andThen fun t => ?_]
  · exact congrArg (Progress.andThen · _) hlow
  rw [waitOr_finish]
  exact Progress.map_andThen fun u => takeSlot_finish _ w (sampleLine .data u).2

theorem recvSlots_finish (ns : List Nat) (w : Int) (s : State) :
    recvSlots ns (finish w s) = (recvSlots ns s).map (finish w) := by
  induction ns generalizing s with
  | nil => rfl
  | cons n rest ih =>
    rw [recvSlots, recvSlots, recvSlot_finish]
    exact Progress.map_andThen ih

/-- A receive begun with another result standing in the caller's register runs the same. -/
theorem receiveByte_finish (w : Int) (s : State) :
    receiveByte (finish w s) = ((receiveByte s).1, finish w (receiveByte s).2) := by
  have hslots := recvSlots_finish rxSlots w (receiveStart s)
  rw [receiveByte, receiveByte]
  have hstart : receiveStart (finish w s) = finish w (receiveStart s) := rfl
  rw [hstart, hslots]
  cases recvSlots rxSlots (receiveStart s) <;> rfl

/-- The end of a caller's operation, over what an earlier one has left in its register. -/
theorem finish_finish (v w : Int) (s : State) : finish v (finish w s) = finish v s := rfl

/-- Another value in the caller's register than the one the operation ended with. -/
theorem finish_set_result (v w : Int) (s : State) : { finish v s with result := w } = finish w s := rfl

end Sys2Proof.Machine
end

section
/-! PROOFS. writeAndReadAck (41_byte_transport.md R121): its branches, and the exchange that works. -/

namespace Sys2Proof.Machine

/-! ## The branches -/

theorem writeAndReadAck_sendFailed {b : Byte} {s : State} (h : (sendByte b s).1 < 0) :
    writeAndReadAck b s = (Config.wraErrSend, (sendByte b s).2) := if_pos h

theorem writeAndReadAck_receiveFailed {b : Byte} {s : State} (hs : 0 ≤ (sendByte b s).1)
    (h : (receiveByte (sendByte b s).2).1 < 0) :
    writeAndReadAck b s = (Config.wraErrRecv, (receiveByte (sendByte b s).2).2) :=
  (if_neg (Int.not_lt.mpr hs)).trans (if_pos h)

theorem maskByte_of_nonneg {v : Int} (h : 0 ≤ v) (hv : codeFits v) : maskByte v = v :=
  Int.emod_eq_of_lt h (by omega)

/-- Both transfers have worked: the value is the received byte, which the mask leaves as it is. -/
theorem writeAndReadAck_received {b : Byte} {s : State} (hs : 0 ≤ (sendByte b s).1)
    (h : 0 ≤ (receiveByte (sendByte b s).2).1) : writeAndReadAck b s = receiveByte (sendByte b s).2 := by
  have hmask := maskByte_of_nonneg h (receiveByte_value_fits _)
  refine (if_neg (Int.not_lt.mpr hs)).trans ((if_neg (Int.not_lt.mpr h)).trans ?_)
  rw [hmask]

/-! ## The obligations -/

/-- Settles O26: the branches of `writeAndReadAck`; its receive does not look at the result that a caller's SEND leaves
before it (`receiveByte_finish`). -/
theorem writeAndReadAckIsSendThenReceive : Obligations.WriteAndReadAckIsSendThenReceive := by
  intro s t b hsend
  cases hsend
  refine ⟨fun h => ?_, fun h => ⟨_, rfl, fun hu => ?_, fun hu => ?_⟩⟩
  · rw [exec_opWra, writeAndReadAck_sendFailed h, finish_set_result]
    rfl
  · rw [receiveByte_finish] at hu ⊢
    rw [exec_opWra, writeAndReadAck_receiveFailed h hu, finish_set_result, finish_finish]
    rfl
  · rw [receiveByte_finish] at hu ⊢
    rw [exec_opWra, writeAndReadAck_received h hu, finish_finish]
    rfl

theorem exchAnswers_nil_append (lag : Nat) (a : Byte) (rest : List Pulls) :
    exchAnswers lag a [] ++ rest = txAnswers lag false ++ (byteAnswers lag a ++ rest) := by
  simp [exchAnswers, bytesAnswers]

/-- Settles O27: the send's state after its acknowledgment, and the receive from there. -/
theorem writeAndReadAckReturnsTheReply : Obligations.WriteAndReadAckReturnsTheReply := by
  intro s b a lag rest hd hlag
  have hsend := sendByte_acked b hlag (hd.trans (exchAnswers_nil_append lag a rest))
  have hrecv := receiveByte_frame (s := (sendByte b s).2) (data := a) (rest := rest) hlag (by rw [hsend]; rfl)
  have hsent : 0 ≤ (sendByte b s).1 := by rw [hsend]; exact Int.le_refl 0
  have hreceived : 0 ≤ (receiveByte (sendByte b s).2).1 := by rw [hrecv]; exact Int.natCast_nonneg _
  rw [exec_opWra, writeAndReadAck_received hsent hreceived, hrecv, hsend]
  simp [answer, finish, received, bitsSent, drivenPin, releasedPin]

end Sys2Proof.Machine
end

section
/-! PROOFS. The device session's own parts (42_device_session.md R136 to R146): its instructions as their operations,
the decode, what `update` and `begin` keep, the control points of `update`. -/

namespace Sys2Proof.Machine

/-! ## The instructions as their operations -/

theorem exec_opUpdate (s : State) : exec .opUpdate s = .next (update s) := rfl

theorem exec_opBegin (s : State) : exec .opBegin s = answer (beginSession s) := rfl

/-- Settles O41: both meanings answer the state they are given. -/
theorem settersAreInert : Obligations.SettersAreInert := fun _ _ => ⟨rfl, rfl⟩

/-! ## The decode (R139, R140, R142) -/

theorem motion_eq (flags : Byte) (sign : Nat) (b : Byte) :
    motion flags sign b = (b.toNat : Int) - 256 * ((flags.getLsbD sign).toNat : Int) := by
  unfold motion bitOf
  cases flags.getLsbD sign <;> simp

theorem decodeEvent_decodes (r : Report) (n : Nat) : DecodesReport r (decodeEvent r n) :=
  ⟨rfl, rfl, rfl, motion_eq _ _ _, motion_eq _ _ _⟩

theorem decodeReport_decodes (s : State) : DecodesReport (decodeReport s).rep (decodeReport s).ev :=
  decodeEvent_decodes s.rep s.draws

theorem update_decodes (s : State) : DecodesReport (update s).rep (update s).ev := decodeReport_decodes _

/-! ## The report registers (R138) -/

theorem storeReport_frame (n : Nat) (v : Int) (s : State) :
    storeReport n v s = { s with rep := (storeReport n v s).rep, draws := (storeReport n v s).draws } := by
  unfold storeReport; split <;> rfl

/-- Whatever a report read gave, no register but its own can differ. -/
theorem storeReport_rep (n : Nat) (v : Int) (s : State) : ∃ b, (storeReport n v s).rep = setRep n b s.rep := by
  unfold storeReport; split <;> exact ⟨_, rfl⟩

/-- A byte is stored in the register of its read. -/
theorem storeReport_byte (n : Nat) (b : Byte) (s : State) :
    storeReport n (b.toNat : Int) s = { s with rep := setRep n b s.rep } := by
  have hbyte : BitVec.ofInt 8 (b.toNat : Int) = b := by simp
  rw [storeReport_ok (Int.natCast_nonneg _), hbyte]

/-! ## What the session keeps -/

/-- What `begin` and `update` leave as it is until `begin` ends: the control state, `op_done`, `rep[3]`, the arrivals
and what the caller has been given. -/
structure KeepsCaller (s t : State) : Prop extends KeepsControl s t where
  inbox : t.inbox = s.inbox
  returned : given t = given s

theorem KeepsCaller.refl (s : State) : KeepsCaller s s := ⟨.refl s, rfl, rfl⟩

theorem KeepsCaller.trans {s t u : State} (h : KeepsCaller s t) (g : KeepsCaller t u) : KeepsCaller s u :=
  ⟨h.toKeepsControl.trans g.toKeepsControl, g.inbox.trans h.inbox, g.returned.trans h.returned⟩

theorem KeepsCaller.result {s t : State} (h : KeepsCaller s t) : t.result = s.result := (Prod.ext_iff.mp h.returned).1

theorem KeepsCaller.valued {s t : State} (h : KeepsCaller s t) : t.valued = s.valued := (Prod.ext_iff.mp h.returned).2

theorem SameSession.keepsCaller {s t : State} (h : SameSession s t) (hgiven : given t = given s) :
    KeepsCaller s t := ⟨h.keepsControl, h.inbox, hgiven⟩

theorem storeReport_keepsCaller (n : Nat) (v : Int) (s : State) : KeepsCaller s (storeReport n v s) where
  ctl := storeReport_ctl n v s
  done := storeReport_done n v s
  b3 := storeReport_b3 n v s
  inbox := storeReport_inbox n v s
  returned := Prod.ext (storeReport_result n v s) (storeReport_valued n v s)

theorem sessionKeeps_caller (s₀ : State) : SessionKeeps (KeepsCaller s₀) where
  send b s h := h.trans ((sendByte_same b s).1.keepsCaller (sendByte_given b s))
  receive s h := h.trans ((receiveByte_same s).1.keepsCaller (receiveByte_given s))
  setK _ _ h := h.trans ⟨⟨rfl, rfl, rfl⟩, rfl, rfl⟩
  setSeq _ _ h := h.trans ⟨⟨rfl, rfl, rfl⟩, rfl, rfl⟩
  store n v s h := h.trans (storeReport_keepsCaller n v s)
  decode _ h := h.trans ⟨⟨rfl, rfl, rfl⟩, rfl, rfl⟩

theorem update_keepsCaller (s : State) : KeepsCaller s (update s) := (sessionKeeps_caller s).update s (.refl s)

theorem beginSession_keepsCaller (s : State) : KeepsCaller s (beginSession s).2 :=
  (sessionKeeps_caller s).beginSession s (.refl s)

theorem reportRead_seq (n : Nat) (s : State) : (reportRead n s).seq = s.seq :=
  (storeReport_seq _ _ _).trans (receiveByte_same { s with k := n }).1.seq

theorem reportReads_seq (ns : List Nat) (s : State) : (reportReads ns s).seq = s.seq := by
  induction ns generalizing s with
  | nil => rfl
  | cons n rest ih => exact (ih _).trans (reportRead_seq n s)

theorem update_seq (s : State) : (update s).seq = s.seq := by
  rw [update, decodeReport_seq, reportReads_seq, (writeAndReadAck_same _ s).1.seq]

/-! ## The control points of `update` (10_state.md R38) -/

/-- With nothing arriving, a step is the action of the active point. -/
theorem step_runPoint {s : State} {p : Point} {rest : List Point} (hin : s.inbox = []) (h : s.ctl = ⟨p :: rest, none⟩) :
    step s = .next (runPoint p rest s) := by
  rw [step_no_input hin, tick, h]

/-- With nothing arriving, a point to which a value has been handed back takes it. -/
theorem step_resumePoint {s : State} {p : Point} {rest : List Point} {v : Int} (hin : s.inbox = [])
    (h : s.ctl = ⟨p :: rest, some v⟩) : step s = .next (resumePoint p v rest s) := by
  rw [step_no_input hin, tick_resume h]

/-- Settles O30: the actions of U0, before and after the exchange it calls. -/
theorem updateIgnoresTheAcknowledgment : Obligations.UpdateIgnoresTheAcknowledgment :=
  ⟨rfl, fun _ _ hin => ⟨step_runPoint (p := .u0) hin, fun _ => step_resumePoint (p := .u0) hin⟩⟩

/-- U1 takes the value of a report read: it goes into the register of that read alone, and the next read follows, or
after the third the decode. -/
theorem resumePoint_u1 (v : Int) (rest : List Point) (s : State) :
    resumePoint .u1 v rest s =
      { s with
        rep := (storeReport s.k v s).rep, draws := (storeReport s.k v s).draws
        k := if s.k + 1 < Config.nReportFetched then s.k + 1 else s.k
        ctl := ⟨(if s.k + 1 < Config.nReportFetched then .u1 else .u2) :: rest, none⟩ } := by
  have hframe := storeReport_frame s.k v s
  rw [resumePoint, storeReport_k]
  split <;> rw [goto, hframe]

/-- Settles O32: for every device by what the parts of `update` keep, at its control points by the actions of U1
and U2. -/
theorem updateAlwaysDecodesItsRegisters : Obligations.UpdateAlwaysDecodesItsRegisters := by
  refine ⟨fun s => ?all, fun s arg rest hidle hin => ?caller, fun s rest hin =>
    ⟨step_runPoint (p := .u1) hin, fun v h _ => ⟨_, step_resumePoint (p := .u1) hin h, ?u1⟩,
      fun h => ⟨_, step_runPoint (p := .u2) hin h, ?u2⟩⟩⟩
  case all =>
    have hkeeps := update_keepsCaller s
    exact ⟨update s, rfl, update_decodes s, hkeeps.b3, update_seq s, hkeeps.ctl, hkeeps.inbox, hkeeps.done,
      hkeeps.result, hkeeps.valued⟩
  case caller =>
    have hstep := step_call (congrArg Control.stack hidle) hin rfl (decode_portWord_update arg)
    have hkeeps := update_keepsCaller (accept rest s)
    have hbusy : busy (update (accept rest s)) = false := busy_idle (congrArg Control.stack (hkeeps.ctl.trans hidle))
    refine ⟨update (accept rest s), hstep, ?_, hkeeps.done, ?_⟩
    · rw [opResult, hbusy, hkeeps.valued]; rfl
    · rw [callerEvent, hbusy]; rfl
  case u1 =>
    rw [resumePoint_u1]
    refine ⟨rfl, ?byte, fun _ => ?failed, fun hlt => ?next, fun hk => ?last⟩
    case byte =>
      rintro b rfl
      rw [storeReport_byte]
      exact ⟨rfl, fun hk => by rw [hk]; rfl, fun hk => by rw [hk]; rfl, fun hk => by rw [hk]; rfl⟩
    case failed =>
      obtain ⟨b, hrep⟩ := storeReport_rep s.k v s
      rw [hrep]
      exact ⟨fun hk => by rw [hk]; rfl, fun hk => by rw [hk]; rfl, fun hk => by rw [hk]; rfl⟩
    case next =>
      have hmore : s.k + 1 < Config.nReportFetched := Nat.succ_lt_succ hlt
      rw [if_pos hmore, if_pos hmore]
      exact ⟨rfl, rfl⟩
    case last =>
      have hmore : ¬ s.k + 1 < Config.nReportFetched := by rw [hk]; decide
      rw [if_neg hmore, if_neg hmore]
      exact ⟨hk, rfl⟩
  case u2 =>
    cases rest with
    | nil => exact ⟨decodeReport_decodes s, rfl, fun _ => ⟨rfl, rfl⟩, fun hne => absurd rfl hne⟩
    | cons p below => exact ⟨decodeReport_decodes s, rfl, nofun, fun _ => ⟨rfl, rfl, rfl⟩⟩

end Sys2Proof.Machine
end

section
/-! PROOFS. The session against a device that answers it, and against none (42_device_session.md R131 to R144): what the
device has given, what the host has put on `DATA`, which waits it has made. -/

namespace Sys2Proof.Machine

/-! ## What a part of the session shows -/

/-- From `s` to `t` the device has come to the entries `rest`, and of the events in between `seen` shows in `view`. -/
structure Traced {α : Type} (view : List Event → List α) (seen : List α) (rest : List Pulls) (s t : State) : Prop where
  device : t.device = rest
  trace : ∃ es, t.trace = s.trace ++ es ∧ view es = seen

theorem Traced.trans {α : Type} {view : List Event → List α} {xs ys : List α} {mid rest : List Pulls} {s t u : State}
    (hview : ∀ as bs, view (as ++ bs) = view as ++ view bs) (h : Traced view xs mid s t) (g : Traced view ys rest t u) :
    Traced view (xs ++ ys) rest s u := by
  obtain ⟨as, has, hxs⟩ := h.trace
  obtain ⟨bs, hbs, hys⟩ := g.trace
  exact ⟨g.device, as ++ bs, by rw [hbs, has, List.append_assoc], by rw [hview, hxs, hys]⟩

/-- Of its states `Traced` looks at the trace and the device only. -/
theorem Traced.of_same {α : Type} {view : List Event → List α} {seen : List α} {rest : List Pulls} {s s' t t' : State}
    (h : Traced view seen rest s t) (hs : s'.trace = s.trace) (hd : t'.device = t.device) (ht : t'.trace = t.trace) :
    Traced view seen rest s' t' :=
  ⟨hd.trans h.device, by rw [hs, ht]; exact h.trace⟩

theorem dataLine_append (as bs : List Event) : dataLine (as ++ bs) = dataLine as ++ dataLine bs := by
  induction as with
  | nil => rfl
  | cons e rest ih =>
    cases e with
    | release l => cases l <;> simp [dataLine, ih]
    | drive l v => cases l <;> simp [dataLine, ih]
    | sample | delay | wait => exact ih

/-- What a send and what a receive puts on `DATA`. -/
theorem dataLine_sendTrace (lag : Nat) (b : Byte) : dataLine (sendTrace lag b) = true :: txFrame b := rfl

theorem dataLine_recvTrace (lag : Nat) (b : Byte) : dataLine (recvTrace lag b) = [true] := rfl

/-! ## The answers to an exchange -/

theorem exchAnswers_append (lag : Nat) (a : Byte) (bs : List Byte) (rest : List Pulls) :
    exchAnswers lag a bs ++ rest = exchAnswers lag a [] ++ (bytesAnswers lag bs ++ rest) := by
  simp [exchAnswers, bytesAnswers]

theorem exchangeLine_succ (b : Byte) (reads : Nat) :
    exchangeLine b (reads + 1) = exchangeLine b 1 ++ List.replicate reads true := by
  simp [exchangeLine, List.replicate_succ]

theorem bytesAnswers_cons (lag : Nat) (b : Byte) (bs : List Byte) (rest : List Pulls) :
    bytesAnswers lag (b :: bs) ++ rest = byteAnswers lag b ++ (bytesAnswers lag bs ++ rest) := List.append_assoc _ _ _

theorem isAck_iff {v : Int} : isAck v = true ↔ v = 250 := beq_iff_eq

/-- From the end of a caller's operation back to its value and the state before, in which the caller has been given what
it had been given at the start. -/
theorem eq_of_answer {r : Int × State} {s t : State} (h : answer r = .next t) (hgiven : given r.2 = given s) :
    r = (t.result, { t with result := s.result, valued := s.valued }) := by
  have hresult : r.2.result = s.result := congrArg Prod.fst hgiven
  have hvalued : r.2.valued = s.valued := congrArg Prod.snd hgiven
  cases h
  exact Prod.ext rfl (by rw [← hresult, ← hvalued]; rfl)

section
variable {lag : Nat} (hlag : lag ≤ Config.waitCeiling) {s : State} {rest : List Pulls}
include hlag

/-- An exchange that works, inside another operation: the reply and the whole next state. -/
theorem writeAndReadAck_clocked (b : Byte) {a : Byte} (hd : s.device = exchAnswers lag a [] ++ rest) :
    writeAndReadAck b s = ((a.toNat : Int),
      { s with
        clock := drivenPin false, data := releasedPin, txb := b, i := 10, par := oddParity b, acc := a,
        ones := popcount a, count := lag, device := rest,
        trace := s.trace ++ sendTrace lag b ++ recvTrace lag a }) :=
  eq_of_answer (writeAndReadAckReturnsTheReply s b a lag rest hd hlag) (writeAndReadAck_given b s)

theorem writeAndReadAck_traced (b : Byte) {a : Byte} (hd : s.device = exchAnswers lag a [] ++ rest) :
    Traced dataLine (exchangeLine b 1) rest s (writeAndReadAck b s).2 := by
  rw [writeAndReadAck_clocked hlag b hd]
  refine ⟨rfl, _, List.append_assoc _ _ _, ?_⟩
  rw [dataLine_append, dataLine_sendTrace, dataLine_recvTrace]
  rfl

theorem receiveByte_traced {b : Byte} (hd : s.device = byteAnswers lag b ++ rest) :
    Traced dataLine [true] rest s (receiveByte s).2 := by
  rw [receiveByte_frame hlag hd]
  exact ⟨rfl, _, rfl, dataLine_recvTrace lag b⟩

theorem payloadReads_traced (bs : List Byte) (hd : s.device = bytesAnswers lag bs ++ rest) :
    Traced dataLine (List.replicate bs.length true) rest s (payloadReads bs.length s) := by
  induction bs generalizing s with
  | nil => exact ⟨hd, [], (List.append_nil _).symm, rfl⟩
  | cons b bs ih =>
    have hread := receiveByte_traced hlag (hd.trans (bytesAnswers_cons lag b bs rest))
    have hrest := ih (s := { (receiveByte s).2 with k := (receiveByte s).2.k + 1 }) hread.device
    exact hread.trans dataLine_append (hrest.of_same rfl rfl rfl)

/-- An exchange that the device acknowledges and whose payload it gives (R132, R133). -/
theorem exchange_traced (b : Byte) (bs : List Byte) (hd : s.device = exchAnswers lag Config.ackCode bs ++ rest) :
    isAck (exchange b bs.length s).1 = true ∧
      Traced dataLine (exchangeLine b (bs.length + 1)) rest s (exchange b bs.length s).2 := by
  have hd' := hd.trans (exchAnswers_append lag _ bs rest)
  have hack : isAck (writeAndReadAck b s).1 = true := by rw [writeAndReadAck_clocked hlag b hd']; rfl
  have hwra := writeAndReadAck_traced hlag b hd'
  have hpay := payloadReads_traced hlag bs (s := { (writeAndReadAck b s).2 with k := 0 }) hwra.device
  have hx : (exchange b bs.length s).2 = payloadReads bs.length { (writeAndReadAck b s).2 with k := 0 } := by
    rw [exchange]; dsimp only; rw [if_pos hack]
  rw [exchange_value, hx, exchangeLine_succ]
  exact ⟨hack, hwra.trans dataLine_append (hpay.of_same rfl rfl rfl)⟩

/-! ## The report -/

/-- A report read whose byte the device gives: the whole next state (R138). -/
theorem reportRead_clocked (n : Nat) {b : Byte} (hd : s.device = byteAnswers lag b ++ rest) :
    reportRead n s =
      { s with
        clock := drivenPin false, data := releasedPin, i := 10, acc := b, ones := popcount b, count := lag,
        rep := setRep n b s.rep, k := n, device := rest, trace := s.trace ++ recvTrace lag b } := by
  have hrecv := receiveByte_frame hlag (s := { s with k := n }) hd
  rw [reportRead, readByte_eq, hrecv, storeReport_byte]
  rfl

/-- The three report reads (R138). -/
theorem reportReads_clocked {x y z : Byte} (hd : s.device = bytesAnswers lag [x, y, z] ++ rest) :
    (reportReads reportIndexes s).rep = ⟨x, y, z, s.rep.b3⟩ ∧
      (reportReads reportIndexes s).clock = drivenPin false ∧ (reportReads reportIndexes s).data = releasedPin ∧
      Traced dataLine [true, true, true] rest s (reportReads reportIndexes s) := by
  have hreads : reportReads reportIndexes s = reportRead 2 (reportRead 1 (reportRead 0 s)) := rfl
  rw [bytesAnswers_cons, bytesAnswers_cons, bytesAnswers_cons] at hd
  rw [hreads, reportRead_clocked hlag 0 hd, reportRead_clocked hlag 1 rfl, reportRead_clocked hlag 2 rfl]
  refine ⟨rfl, rfl, rfl, rfl, recvTrace lag x ++ (recvTrace lag y ++ recvTrace lag z), ?_, ?_⟩
  · simp only [List.append_assoc]
  · rw [dataLine_append, dataLine_append, dataLine_recvTrace, dataLine_recvTrace, dataLine_recvTrace]; rfl

/-- An `update` that the device answers, whatever byte answers the command (R136, R138, R143). -/
theorem update_clocked {a x y z : Byte} (hd : s.device = exchAnswers lag a [x, y, z] ++ rest) :
    (update s).rep = ⟨x, y, z, s.rep.b3⟩ ∧ (update s).clock = drivenPin false ∧ (update s).data = releasedPin ∧
      Traced dataLine (exchangeLine 0xEB 4) rest s (update s) := by
  have hwra := writeAndReadAck_traced hlag Config.cmdReadData (hd.trans (exchAnswers_append lag a _ rest))
  have hsame := (writeAndReadAck_same Config.cmdReadData s).1
  obtain ⟨hrep, hclock, hdata, htraced⟩ := reportReads_clocked hlag hwra.device
  rw [hsame.rep] at hrep
  rw [update, decodeReport_rep, decodeReport_clock, decodeReport_data, exchangeLine_succ]
  exact ⟨hrep, hclock, hdata,
    (hwra.trans dataLine_append htraced).of_same rfl (decodeReport_device _) (decodeReport_trace _)⟩

end

/-- Settles O34: each report byte as its read (`reportRead_clocked`), clocked at once; the third is followed by the
decode. -/
theorem reportBytesFillTheirRegisters : Obligations.ReportBytesFillTheirRegisters := by
  intro s b
  have hread : ∀ n, reportRead n (present (byteAnswers 0 b) s) =
      { s with
        clock := drivenPin false, data := releasedPin, i := 10, acc := b, ones := popcount b, count := 0,
        rep := setRep n b s.rep, k := n, trace := s.trace ++ recvTrace 0 b } := fun n =>
    reportRead_clocked (Nat.zero_le _) n (present_device _ _)
  have hdecodes := decodeReport_decodes (reportRead 2 (present (byteAnswers 0 b) s))
  rw [hread 2] at hdecodes
  exact ⟨congrArg Host.Outcome.next (hread 0), congrArg Host.Outcome.next (hread 1),
    ⟨_, congrArg (fun t => Host.Outcome.next (decodeReport t)) (hread 2), hdecodes, rfl⟩, rfl⟩

/-- Settles O31: the exchange and the three reads of `update_clocked`; the decode; what every `update` keeps. -/
theorem updateDecodesTheReport : Obligations.UpdateDecodesTheReport := by
  intro s a x y z lag rest hd hlag
  obtain ⟨hrep, hclock, hdata, hdev, es, hes, hline⟩ := update_clocked hlag hd
  have hkeeps := update_keepsCaller s
  have hdecodes := update_decodes s
  rw [hrep] at hdecodes
  exact ⟨update s, es, exec_opUpdate s, hrep, hdecodes, hkeeps.result, hkeeps.valued, hdev, update_seq s, hkeeps.ctl,
    hkeeps.inbox, hkeeps.done, hclock, hdata, hes, hline⟩

/-! ## The initialisation list -/

theorem payloadOf_length (pay : Nat → Nat → Byte) (n : Nat) : (payloadOf pay n).length = payloadAt n := by
  simp [payloadOf]

theorem exchangeKeeps_draws (n : Nat) : ExchangeKeeps fun s => s.draws = n where
  send b s h := (sendByte_same b s).1.draws.trans h
  receive s h := (receiveByte_same s).1.draws.trans h
  setK _ _ h := h

/-- Where `begin` stands after entries that have been acknowledged: none of them has touched the report, the event or
the free values. -/
structure ListDone (ns : List Nat) (rest : List Pulls) (s t : State) : Prop extends
    Traced dataLine (initLine ns) rest s t, SameReport s t where
  draws : t.draws = s.draws
  seq : t.seq = ns.getLastD s.seq

/-- `begin` goes through the entries that the device acknowledges to the ones after them (R132, R133). -/
theorem beginFrom_acked {lag : Nat} (hlag : lag ≤ Config.waitCeiling) (pay : Nat → Nat → Byte) (ns ms : List Nat)
    {rest : List Pulls} {s : State} (hd : s.device = initAnswers lag pay ns ++ rest) :
    ∃ t, beginFrom (ns ++ ms) s = beginFrom ms t ∧ ListDone ns rest s t := by
  induction ns generalizing s with
  | nil => exact ⟨s, rfl, ⟨hd, [], (List.append_nil _).symm, rfl⟩, ⟨rfl, rfl⟩, rfl, rfl⟩
  | cons n ns ih =>
    have hd' : s.device = exchAnswers lag Config.ackCode (payloadOf pay n) ++ (initAnswers lag pay ns ++ rest) := by
      rw [hd, initAnswers, List.append_assoc]
    have hx := exchange_traced hlag (initAt n) (payloadOf pay n) (s := { s with seq := n }) hd'
    have hreport := (exchangeKeeps_report s).exchange (initAt n) (payloadAt n) { s with seq := n } ⟨rfl, rfl⟩
    have hdraws := (exchangeKeeps_draws s.draws).exchange (initAt n) (payloadAt n) { s with seq := n } rfl
    have hseq := (exchangeKeeps_seq n).exchange (initAt n) (payloadAt n) { s with seq := n } rfl
    rw [payloadOf_length] at hx
    obtain ⟨t, hbegin, htraced, hrest, htdraws, htseq⟩ := ih hx.2.device
    refine ⟨t, ?_, ?_, hreport.trans hrest, htdraws.trans hdraws, ?_⟩
    · rw [List.cons_append, beginFrom, if_pos hx.1, hbegin]
    · exact (hx.2.of_same (s' := s) rfl rfl rfl).trans dataLine_append htraced
    · rw [htseq, hseq, List.getLastD_cons]

/-- Settles O37: the list to its end (`beginFrom_acked`), then an `update` that the device answers. -/
theorem beginRunsTheWholeList : Obligations.BeginRunsTheWholeList := by
  intro s lag pay a x y z rest hd hlag
  obtain ⟨t, hbegin, hdone⟩ := beginFrom_acked hlag pay initSteps [] (hd.trans (List.append_assoc _ _ _))
  obtain ⟨hrep, hclock, hdata, hupdate⟩ := update_clocked hlag hdone.device
  obtain ⟨hdev, es, hes, hline⟩ := hdone.toTraced.trans dataLine_append hupdate
  have hsession : beginSession s = (1, update t) := by
    rw [beginSession, ← List.append_nil initSteps, hbegin, beginFrom]
  have hseq : (update t).seq = 6 := by rw [update_seq, hdone.seq]; rfl
  have hkeeps := beginSession_keepsCaller s
  have hdecodes := update_decodes t
  rw [hsession] at hkeeps
  rw [hdone.rep] at hrep
  rw [hrep] at hdecodes
  rw [exec_opBegin, hsession]
  generalize update t = u at *
  exact ⟨finish 1 u, es, rfl, rfl, hseq, hrep, hdecodes, hdev, hkeeps.ctl, hkeeps.inbox, hkeeps.done, hclock, hdata,
    hes, hline.trans rfl⟩

/-! ## No device (95_test_vectors.md P3) -/

/-- The waits of a trace. -/
def waitsIn (es : List Event) : List Event := es.filter isWait

theorem clockNeverPulled_of_no_device {s : State} (h : s.device = []) : clockNeverPulled s := fun n _ => by rw [h]; rfl

section
variable {s : State} (h : s.device = [])
include h

/-- A send whose first wait fails (R113). -/
theorem sendByte_no_device (b : Byte) :
    (sendByte b s).1 = Config.txErrClkFall ∧ (sendByte b s).2.clock = releasedPin ∧
      (sendByte b s).2.data = drivenPin false ∧ Traced waitsIn [clockNeverFell] [] s (sendByte b s).2 := by
  have hwait := waitOr_neverPulled Config.txErrClkFall (s := requestToSend b s) rfl (clockNeverPulled_of_no_device h)
  have htrace : (requestToSend b s).trace = s.trace ++ ([.release .data, .release .clock, .delay Config.tIdleSettle,
      .drive .clock false, .delay Config.tClkHold, .drive .data false, .delay Config.tBitSettle, .release .clock] :
        List Event) := by
    simp only [requestToSend, releaseLine_trace, driveLine_trace, delayFor_trace, List.append_assoc, List.cons_append,
      List.nil_append]
  have hdev : (requestToSend b s).device = [] := h
  have hclock : (requestToSend b s).clock = releasedPin := rfl
  have hdata : (requestToSend b s).data = drivenPin false := rfl
  rw [sendByte, hwait, Progress.andThen_aborted, Progress.toResult_aborted, htrace, hdev, List.drop_nil]
  exact ⟨rfl, hclock, hdata, rfl, _, List.append_assoc _ _ _, rfl⟩

/-- A receive whose first wait fails (R117). -/
theorem receiveByte_no_device :
    (receiveByte s).1 = Config.rxErrClkLow 0 ∧ (receiveByte s).2.clock = releasedPin ∧
      (receiveByte s).2.data = releasedPin ∧ Traced waitsIn [clockNeverFell] [] s (receiveByte s).2 := by
  have hsplit : rxSlots = 0 :: List.range' 1 10 := rfl
  have hwait := waitOr_neverPulled (Config.rxErrClkLow 0) (s := { receiveStart s with i := 0 }) rfl
    (clockNeverPulled_of_no_device h)
  have htrace : (receiveStart s).trace = s.trace ++
      ([.release .clock, .release .data, .delay Config.tRxSettle] : List Event) := by
    simp only [receiveStart, releaseLine_trace, delayFor_trace, List.append_assoc, List.cons_append, List.nil_append]
  have hdev : (receiveStart s).device = [] := h
  have hclock : (receiveStart s).clock = releasedPin := rfl
  have hdata : (receiveStart s).data = releasedPin := rfl
  rw [receiveByte, hsplit, recvSlots, recvSlot, hwait, Progress.andThen_aborted, Progress.andThen_aborted,
    Progress.andThen_aborted, Progress.toResult_aborted, htrace, hdev, List.drop_nil]
  exact ⟨rfl, hclock, hdata, rfl, _, List.append_assoc _ _ _, rfl⟩

/-- An exchange makes its send's attempt only. -/
theorem writeAndReadAck_no_device (b : Byte) :
    (writeAndReadAck b s).1 = Config.wraErrSend ∧ (writeAndReadAck b s).2 = (sendByte b s).2 := by
  have hneg : (sendByte b s).1 < 0 := by rw [(sendByte_no_device h b).1]; decide
  rw [writeAndReadAck_sendFailed hneg]
  exact ⟨rfl, rfl⟩

/-- A report read makes one attempt, and the next read follows (R138). -/
theorem reportRead_no_device (n : Nat) :
    (reportRead n s).clock = releasedPin ∧ (reportRead n s).data = releasedPin ∧ (reportRead n s).k = n ∧
      Traced waitsIn [clockNeverFell] [] s (reportRead n s) := by
  obtain ⟨-, hclock, hdata, htraced⟩ := receiveByte_no_device (s := { s with k := n }) h
  have hk := (receiveByte_same { s with k := n }).1.k
  rw [reportRead, storeReport_clock, storeReport_data, storeReport_k, readByte_eq]
  exact ⟨hclock, hdata, hk, htraced.of_same rfl (storeReport_device _ _ _) (storeReport_trace _ _ _)⟩

end

/-- Settles O33: the failed send, and the three reads that are made all the same (`reportRead_no_device`). -/
theorem updateWithoutDeviceMakesFourAttempts : Obligations.UpdateWithoutDeviceMakesFourAttempts := by
  intro s h
  obtain ⟨-, hwra⟩ := writeAndReadAck_no_device h Config.cmdReadData
  obtain ⟨-, -, -, hsend⟩ := sendByte_no_device h Config.cmdReadData
  rw [← hwra] at hsend
  have hreads : reportReads reportIndexes (writeAndReadAck Config.cmdReadData s).2 =
    reportRead 2 (reportRead 1 (reportRead 0 (writeAndReadAck Config.cmdReadData s).2)) := rfl
  obtain ⟨-, -, -, h0⟩ := reportRead_no_device hsend.device 0
  obtain ⟨-, -, -, h1⟩ := reportRead_no_device h0.device 1
  obtain ⟨hclock, hdata, hk, h2⟩ := reportRead_no_device h1.device 2
  obtain ⟨-, es, hes, hwaits⟩ := ((hsend.trans List.filter_append h0).trans List.filter_append h1).trans
    List.filter_append h2
  rw [← hreads] at hclock hdata hk hes
  have hkeeps := update_keepsCaller s
  have hdecodes := update_decodes s
  refine ⟨update s, es, exec_opUpdate s, ?_, ?_, hkeeps.result, hkeeps.valued, ?_, hdecodes, ?_, hwaits⟩
  · rw [update, decodeReport_clock, hclock]
  · rw [update, decodeReport_data, hdata]
  · rw [update, decodeReport_k, hk]
  · rw [update, decodeReport_trace, hes]

/-- `begin` ends with `false` where an entry is not acknowledged (R132). -/
theorem beginFrom_refused {n : Nat} {ms : List Nat} {s : State}
    (h : ¬ isAck (writeAndReadAck (initAt n) { s with seq := n }).1 = true) :
    beginFrom (n :: ms) s = (0, (writeAndReadAck (initAt n) { s with seq := n }).2) := by
  have hx : exchange (initAt n) (payloadAt n) { s with seq := n } = writeAndReadAck (initAt n) { s with seq := n } := by
    rw [exchange]; dsimp only; rw [if_neg h]
  rw [beginFrom, hx, if_neg h]

/-- Settles O40: the exchange of the first entry fails in its send, and `begin` ends there. -/
theorem beginWithoutDeviceMakesOneAttempt : Obligations.BeginWithoutDeviceMakesOneAttempt := by
  intro s h
  obtain ⟨hvalue, hwra⟩ := writeAndReadAck_no_device (s := { s with seq := 0 }) h (initAt 0)
  obtain ⟨-, hclock, hdata, -, es, hes, hwaits⟩ := sendByte_no_device (s := { s with seq := 0 }) h (initAt 0)
  have hsame := (sendByte_same (initAt 0) { s with seq := 0 }).1
  have hsession : beginSession s = (0, (sendByte (initAt 0) { s with seq := 0 }).2) := by
    rw [← hwra]
    exact beginFrom_refused (by rw [hvalue]; decide)
  rw [exec_opBegin, hsession]
  generalize (sendByte (initAt 0) { s with seq := 0 }).2 = u at *
  exact ⟨finish 0 u, es, rfl, rfl, hsame.seq, hsame.rep, hsame.ev, hclock, hdata, hes, hwaits⟩

end Sys2Proof.Machine
end

section
/-! PROOFS. A byte operation depends on nothing but what the device does: from any two states before the same entries of
the device it makes the same events, leaves the same lines and returns the same value (41_byte_transport.md R111, R117).
With it, where `begin` stops (42_device_session.md R132, R135). -/

namespace Sys2Proof.Machine

/-! ## Two runs side by side -/

/-- Two states alike on the wires: the same lines before the same device; what the second has in its trace is `pre` and
then the events of the first. -/
structure SameWires (pre : List Event) (s t : State) : Prop where
  clock : t.clock = s.clock
  data : t.data = s.data
  device : t.device = s.device
  draws : t.draws = s.draws
  trace : t.trace = pre ++ s.trace

/-- Two runs go on alike, with these registers the same too, or abort alike. -/
def Progress.Alike {α : Type} (regs : State → α) (pre : List Event) : Progress → Progress → Prop
  | .going s, .going t => SameWires pre s t ∧ regs t = regs s
  | .aborted c s, .aborted d t => d = c ∧ SameWires pre s t
  | .going _, .aborted _ _ | .aborted _ _, .going _ => False

section
variable {α β : Type} {regs : State → α} {regs' : State → β} {pre : List Event}

theorem Progress.Alike.andThen {p q : Progress} {f : State → Progress} (h : p.Alike regs pre q)
    (hf : ∀ s t, SameWires pre s t → regs t = regs s → (f s).Alike regs' pre (f t)) :
    (p.andThen f).Alike regs' pre (q.andThen f) := by
  cases p with
  | going s =>
    cases q with
    | going t => exact hf s t h.1 h.2
    | aborted => exact h.elim
  | aborted c s =>
    cases q with
    | going => exact h.elim
    | aborted => exact h

/-- The value and the wires at the end. -/
theorem Progress.Alike.toResult {p q : Progress} {value : State → Int} (h : p.Alike regs pre q)
    (hvalue : ∀ s t, regs t = regs s → value t = value s) :
    (q.toResult value).1 = (p.toResult value).1 ∧ SameWires pre (p.toResult value).2 (q.toResult value).2 := by
  cases p with
  | going s =>
    cases q with
    | going t => exact ⟨hvalue s t h.2, h.1⟩
    | aborted => exact h.elim
  | aborted c s =>
    cases q with
    | going => exact h.elim
    | aborted => exact h

end

/-! ## The primitives and the wait -/

section
variable {pre : List Event} {s t : State} (h : SameWires pre s t)
include h

theorem SameWires.readPin (l : Line) : readPin l t = readPin l s := by
  cases l
  · exact h.clock
  · exact h.data

theorem SameWires.emit (e : Event) : SameWires pre (emit e s) (emit e t) :=
  ⟨h.clock, h.data, h.device, h.draws, by rw [emit_trace, emit_trace, h.trace, List.append_assoc]⟩

theorem SameWires.setPin (l : Line) (p : Pin) : SameWires pre (setPin l p s) (setPin l p t) := by
  cases l
  · exact ⟨rfl, h.data, h.device, h.draws, h.trace⟩
  · exact ⟨h.clock, rfl, h.device, h.draws, h.trace⟩

theorem SameWires.releaseLine (l : Line) : SameWires pre (releaseLine l s) (releaseLine l t) := (h.setPin l _).emit _

theorem SameWires.driveLine (l : Line) (v : Level) : SameWires pre (driveLine l v s) (driveLine l v t) :=
  (h.setPin l _).emit _

theorem SameWires.look (l : Line) : (look l t).1 = (look l s).1 ∧ SameWires pre (look l s).2 (look l t).2 := by
  have hnext : nextPulls t = nextPulls s := by rw [nextPulls, h.device, ← nextPulls]
  simp only [Machine.look, h.readPin l, hnext, h.device, h.draws]
  exact ⟨trivial, h.clock, h.data, rfl, rfl, h.trace⟩

theorem SameWires.sampleLine (l : Line) :
    (sampleLine l t).1 = (sampleLine l s).1 ∧ SameWires pre (sampleLine l s).2 (sampleLine l t).2 := by
  obtain ⟨hvalue, hwires⟩ := h.look l
  refine ⟨hvalue, ?_⟩
  rw [Machine.sampleLine, Machine.sampleLine, hvalue]
  exact hwires.emit _

end

/-- One sample of the poll loop, where the device has an entry for it. -/
theorem pollFrom_cons (l : Line) (v : Level) (budget : Nat) (p : Pulls) (rest : List Pulls) (s : State) :
    pollFrom l v budget (p :: rest) s =
      if (look l s).1 = v then (true, (look l s).2)
      else if s.count + 1 > budget then (false, { (look l s).2 with count := s.count + 1 })
      else pollFrom l v budget rest { (look l s).2 with count := s.count + 1 } := rfl

theorem SameWires.pollFrom {pre : List Event} (l : Line) (v : Level) (budget : Nat) {d e : List Pulls} {s t : State}
    (h : SameWires pre s t) (he : e = d) (hc : t.count = s.count) :
    (pollFrom l v budget e t).1 = (pollFrom l v budget d s).1 ∧
      (pollFrom l v budget e t).2.count = (pollFrom l v budget d s).2.count ∧
      SameWires pre (pollFrom l v budget d s).2 (pollFrom l v budget e t).2 := by
  subst he
  induction e generalizing s t with
  | nil =>
    simp only [Machine.pollFrom, h.readPin l, h.draws]
    split
    · exact ⟨rfl, hc, h⟩
    · exact ⟨rfl, rfl, h.clock, h.data, h.device, rfl, h.trace⟩
  | cons p rest ih =>
    obtain ⟨hvalue, hwires⟩ := h.look l
    have hnext : SameWires pre { (Machine.look l s).2 with count := s.count + 1 }
        { (Machine.look l t).2 with count := s.count + 1 } :=
      ⟨hwires.clock, hwires.data, hwires.device, hwires.draws, hwires.trace⟩
    rw [pollFrom_cons, pollFrom_cons, hvalue, hc]
    by_cases hv : (Machine.look l s).1 = v
    · rw [if_pos hv, if_pos hv]
      exact ⟨rfl, hc, hwires⟩
    · rw [if_neg hv, if_neg hv]
      by_cases hb : s.count + 1 > budget
      · rw [if_pos hb, if_pos hb]
        exact ⟨rfl, rfl, hnext⟩
      · rw [if_neg hb, if_neg hb]
        exact ih hnext rfl

theorem SameWires.waitForLevel {pre : List Event} {s t : State} (h : SameWires pre s t) (l : Line) (v : Level)
    (budget : Nat) :
    (waitForLevel l v budget t).1 = (waitForLevel l v budget s).1 ∧
      SameWires pre (waitForLevel l v budget s).2 (waitForLevel l v budget t).2 := by
  have hstart : SameWires pre { s with count := 0 } { t with count := 0 } :=
    ⟨h.clock, h.data, h.device, h.draws, h.trace⟩
  obtain ⟨hvalue, hcount, hwires⟩ := hstart.pollFrom l v budget h.device rfl
  refine ⟨hvalue, ?_⟩
  simp only [Machine.waitForLevel, hvalue, hcount]
  exact hwires.emit _

/-- Registers that a wait does not write. -/
def WaitKeeps {α : Type} (regs : State → α) : Prop :=
  ∀ (s : State) (c : Nat) (d : List Pulls) (es : List Event) (n : Nat),
    regs { s with count := c, device := d, trace := es, draws := n } = regs s

theorem waitOr_alike {α : Type} {regs : State → α} (hregs : WaitKeeps regs) {pre : List Event} {s t : State}
    (h : SameWires pre s t) (hr : regs t = regs s) (l : Line) (v : Level) (code : Int) :
    (waitOr l v code s).Alike regs pre (waitOr l v code t) := by
  obtain ⟨hvalue, hwires⟩ := h.waitForLevel l v Config.waitCeiling
  have hkept : ∀ u, regs (waitForLevel l v Config.waitCeiling u).2 = regs u := fun u => by
    rw [waitForLevel_frame]; exact hregs _ _ _ _ _
  rw [waitOr_eq, waitOr_eq, hvalue]
  split
  · exact ⟨hwires, by rw [hkept, hkept, hr]⟩
  · exact ⟨rfl, hwires⟩

/-! ## The send -/

/-- What the bit loop reads. -/
def sendRegs (s : State) : Byte × Level := (s.txb, s.par)

theorem sendRegs_waitKeeps : WaitKeeps sendRegs := fun _ _ _ _ _ => rfl

theorem putSlot_alike {pre : List Event} {s t : State} (h : SameWires pre s t) (hr : sendRegs t = sendRegs s)
    (hi : t.i = s.i) : SameWires pre (putSlot s) (putSlot t) ∧ sendRegs (putSlot t) = sendRegs (putSlot s) := by
  obtain ⟨htxb, hpar⟩ := Prod.mk.inj hr
  by_cases hdata : s.i ≤ 7
  · have hdrive := h.driveLine .data (bitOf s.txb s.i)
    rw [putSlot_of_data hdata, putSlot_of_data (hi ▸ hdata), htxb, hpar, hi]
    exact ⟨⟨hdrive.clock, hdrive.data, hdrive.device, hdrive.draws, hdrive.trace⟩,
      congrArg (·, s.par ^^ bitOf s.txb s.i) htxb⟩
  · by_cases hparity : s.i = 8
    · rw [putSlot_of_parity hparity, putSlot_of_parity (hi.trans hparity), hpar]
      exact ⟨h.driveLine _ _, hr⟩
    · have hstop : 8 < s.i := by omega
      rw [putSlot_of_stop hstop, putSlot_of_stop (hi ▸ hstop)]
      exact ⟨(h.releaseLine _).emit _, hr⟩

theorem sendSlot_alike {pre : List Event} {s t : State} (n : Nat) (h : SameWires pre s t)
    (hr : sendRegs t = sendRegs s) : (sendSlot n s).Alike sendRegs pre (sendSlot n t) := by
  obtain ⟨hput, hregs⟩ := putSlot_alike (s := { s with i := n }) (t := { t with i := n })
    ⟨h.clock, h.data, h.device, h.draws, h.trace⟩ hr rfl
  exact (waitOr_alike sendRegs_waitKeeps hput hregs _ _ _).andThen fun u w hw hrw =>
    waitOr_alike sendRegs_waitKeeps hw hrw _ _ _

theorem sendSlots_alike {pre : List Event} {s t : State} (ns : List Nat) (h : SameWires pre s t)
    (hr : sendRegs t = sendRegs s) : (sendSlots ns s).Alike sendRegs pre (sendSlots ns t) := by
  induction ns generalizing s t with
  | nil => exact ⟨h, hr⟩
  | cons n rest ih => exact (sendSlot_alike n h hr).andThen fun u w hw hrw => ih hw hrw

theorem ackCheck_alike {pre : List Event} {s t : State} (h : SameWires pre s t) :
    (ackCheck s).Alike (fun _ => ()) pre (ackCheck t) := by
  obtain ⟨hvalue, hwires⟩ := h.sampleLine .data
  simp only [ackCheck, hvalue]
  split
  · exact ⟨rfl, hwires⟩
  · have hend := waitOr_alike (regs := fun _ => ()) (fun _ _ _ _ _ => rfl) hwires rfl .clock true Config.txErrEndClk
    exact hend.andThen fun u w hw _ => ⟨hw.driveLine _ _, rfl⟩

/-- A send runs alike from any two states before the same device: it sets both lines and every register it reads. -/
theorem sendByte_alike {pre : List Event} {s t : State} (b : Byte) (hdev : t.device = s.device)
    (hdraws : t.draws = s.draws) (htrace : t.trace = pre ++ s.trace) :
    (sendByte b t).1 = (sendByte b s).1 ∧ SameWires pre (sendByte b s).2 (sendByte b t).2 := by
  have hrequest : SameWires pre (requestToSend b s) (requestToSend b t) :=
    ⟨rfl, rfl, hdev, hdraws, by simp [requestToSend, htrace]⟩
  have hfirst := waitOr_alike (regs := State.txb) (fun _ _ _ _ _ => rfl) hrequest rfl .clock false Config.txErrClkFall
  refine (hfirst.andThen fun u w hw htxb => ?_).toResult (regs := fun _ => ()) fun _ _ _ => rfl
  have hbits := sendSlots_alike txSlots (s := { u with par := true }) (t := { w with par := true })
    ⟨hw.clock, hw.data, hw.device, hw.draws, hw.trace⟩ (congrArg (·, true) htxb)
  exact hbits.andThen fun x y hy _ => ackCheck_alike hy

/-! ## The receive -/

/-- What the slots of a receive read. -/
def recvRegs (s : State) : Nat × Byte × Nat := (s.i, s.acc, s.ones)

theorem recvRegs_waitKeeps : WaitKeeps recvRegs := fun _ _ _ _ _ => rfl

theorem takeSlot_alike {pre : List Event} {s t : State} (d : Level) (h : SameWires pre s t)
    (hr : recvRegs t = recvRegs s) : (takeSlot d s).Alike recvRegs pre (takeSlot d t) := by
  have hi : t.i = s.i := congrArg Prod.fst hr
  have hacc : t.acc = s.acc := congrArg (·.2.1) hr
  have hones : t.ones = s.ones := congrArg (·.2.2) hr
  have hverdict : slotVerdict t.i d t.acc t.ones = slotVerdict s.i d s.acc s.ones := by rw [hi, hacc, hones]
  cases hv : slotVerdict s.i d s.acc s.ones with
  | ok v =>
    rw [takeSlot_ok hv, takeSlot_ok (hverdict.trans hv)]
    exact ⟨⟨h.clock, h.data, h.device, h.draws, h.trace⟩, congrArg (·, v.1, v.2) hi⟩
  | error c =>
    rw [takeSlot_error hv, takeSlot_error (hverdict.trans hv)]
    exact ⟨rfl, h⟩

theorem recvSlot_alike {pre : List Event} {s t : State} (n : Nat) (h : SameWires pre s t)
    (hr : recvRegs t = recvRegs s) : (recvSlot n s).Alike recvRegs pre (recvSlot n t) := by
  have hstart : SameWires pre { s with i := n } { t with i := n } := ⟨h.clock, h.data, h.device, h.draws, h.trace⟩
  have hregs : recvRegs { t with i := n } = recvRegs { s with i := n } := congrArg (n, ·.2) hr
  refine (waitOr_alike recvRegs_waitKeeps hstart hregs _ _ _).andThen fun u w hw hrw => ?_
  refine (waitOr_alike recvRegs_waitKeeps hw hrw _ _ _).andThen fun x y hy hry => ?_
  obtain ⟨hvalue, hwires⟩ := hy.sampleLine .data
  dsimp only
  rw [hvalue]
  exact takeSlot_alike _ hwires hry

theorem recvSlots_alike {pre : List Event} {s t : State} (ns : List Nat) (h : SameWires pre s t)
    (hr : recvRegs t = recvRegs s) : (recvSlots ns s).Alike recvRegs pre (recvSlots ns t) := by
  induction ns generalizing s t with
  | nil => exact ⟨h, hr⟩
  | cons n rest ih => exact (recvSlot_alike n h hr).andThen fun u w hw hrw => ih hw hrw

/-- A receive runs alike from any two states before the same device. -/
theorem receiveByte_alike {pre : List Event} {s t : State} (hdev : t.device = s.device) (hdraws : t.draws = s.draws)
    (htrace : t.trace = pre ++ s.trace) :
    (receiveByte t).1 = (receiveByte s).1 ∧ SameWires pre (receiveByte s).2 (receiveByte t).2 := by
  have hstart : SameWires pre (receiveStart s) (receiveStart t) :=
    ⟨rfl, rfl, hdev, hdraws, by simp [receiveStart, htrace]⟩
  have hslots := recvSlots_alike rxSlots hstart rfl
  refine (hslots.andThen fun u w hw hr => ?_).toResult (regs := State.acc) fun u w hacc => by rw [hacc]
  exact ⟨hw.driveLine _ _, congrArg (·.2.1) hr⟩

theorem writeAndReadAck_alike {pre : List Event} {s t : State} (b : Byte) (hdev : t.device = s.device)
    (hdraws : t.draws = s.draws) (htrace : t.trace = pre ++ s.trace) :
    (writeAndReadAck b t).1 = (writeAndReadAck b s).1 ∧
      SameWires pre (writeAndReadAck b s).2 (writeAndReadAck b t).2 := by
  obtain ⟨hsent, hsend⟩ := sendByte_alike b hdev hdraws htrace
  obtain ⟨hread, hrecv⟩ := receiveByte_alike hsend.device hsend.draws hsend.trace
  simp only [writeAndReadAck, hsent, hread]
  split
  · exact ⟨rfl, hsend⟩
  · split <;> exact ⟨rfl, hrecv⟩

/-! ## Where `begin` stops -/

theorem initSteps_split : ∀ n < 7, initSteps = List.range n ++ n :: List.range' (n + 1) (6 - n) := by decide

/-- After `n` acknowledged entries, the next one's exchange, begun before the same device by itself, decides: another
value than 250 ends `begin`, which leaves what that exchange leaves. -/
theorem begin_stops {s u : State} {lag n : Nat} {pay : Nat → Nat → Byte} {d : List Pulls} (hn : n ≤ 6)
    (hd : s.device = initAnswers lag pay (List.range n) ++ d) (hlag : lag ≤ Config.waitCeiling)
    (hwra : exec (.opWra (initAt n)) { s with device := d, trace := [] } = .next u) (hvalue : u.result ≠ 250) :
    ∃ t es, exec .opBegin s = .next t ∧ t.result = 0 ∧ t.seq = n ∧ t.rep = s.rep ∧ t.ev = s.ev ∧
      t.device = u.device ∧ t.clock = u.clock ∧ t.data = u.data ∧ t.trace = s.trace ++ es ∧
      dataLine es = initLine (List.range n) ++ dataLine u.trace := by
  have hsteps := initSteps_split n (Nat.lt_succ_of_le hn)
  obtain ⟨w, hbegin, hdone⟩ := beginFrom_acked hlag pay (List.range n) (n :: List.range' (n + 1) (6 - n)) hd
  obtain ⟨es, hes, hline⟩ := hdone.trace
  obtain ⟨hsame, hwires⟩ := writeAndReadAck_alike (pre := w.trace) (s := { s with device := d, trace := [] })
    (t := { w with seq := n }) (initAt n) hdone.device hdone.draws (List.append_nil _).symm
  have hreport := hdone.toSameReport.trans
    ((exchangeKeeps_report w).exchangeByte (initAt n) { w with seq := n } ⟨rfl, rfl⟩)
  have hseq := (exchangeKeeps_seq n).exchangeByte (initAt n) { w with seq := n } rfl
  rw [exec_opWra] at hwra
  cases hwra
  have hrefused : ¬ isAck (writeAndReadAck (initAt n) { w with seq := n }).1 = true := by
    rw [isAck_iff, hsame]; exact hvalue
  have hsession : beginSession s = (0, (writeAndReadAck (initAt n) { w with seq := n }).2) := by
    rw [beginSession, hsteps, hbegin, beginFrom_refused hrefused]
  rw [exec_opBegin, hsession]
  generalize (writeAndReadAck (initAt n) { w with seq := n }).2 = t at *
  generalize writeAndReadAck (initAt n) { s with device := d, trace := [] } = r at *
  refine ⟨finish 0 t, es ++ r.2.trace, rfl, rfl, hseq, hreport.rep, hreport.ev, hwires.device, hwires.clock,
    hwires.data, ?_, ?_⟩
  · rw [finish_trace, hwires.trace, hes, List.append_assoc]
  · rw [dataLine_append, hline, finish_trace]

/-- Settles O38: the second part is `begin_stops`; the first is its case of a device that answers with another byte,
whose exchange is `writeAndReadAckReturnsTheReply`. -/
theorem beginStopsAtTheFirstRefusal : Obligations.BeginStopsAtTheFirstRefusal := by
  refine ⟨fun s lag pay n a rest hn ha hd hlag => ?_, fun s u lag pay n d hn hd hlag => begin_stops hn hd hlag⟩
  have hwra := writeAndReadAckReturnsTheReply { s with device := exchAnswers lag a [] ++ rest, trace := [] } (initAt n)
    a lag rest rfl hlag
  have hvalue : (a.toNat : Int) ≠ 250 := fun h => ha (BitVec.eq_of_toNat_eq (Int.ofNat.inj h))
  obtain ⟨t, es, hexec, hresult, hseq, hrep, hev, hdev, -, -, hes, hline⟩ :=
    begin_stops hn (hd.trans (List.append_assoc _ _ _)) hlag hwra hvalue
  exact ⟨t, es, hexec, hresult, hseq, hrep, hev, hdev, hes, hline⟩

end Sys2Proof.Machine
end

section
/-! PROOFS. The bytes that the device session puts on the wire (43_commands.md R165): inside `begin` and `update` every
byte that is sent, or is about to be, is one of the list, at every control point. -/

namespace Sys2Proof.Machine

/-! ## The bytes of the list -/

/-- Every entry of the initialisation list is one of the five values (42_device_session.md R131). -/
theorem initAt_mem_sessionBytes {n : Nat} (h : n ≤ 6) : initAt n ∈ sessionBytes := by
  have hall : ∀ m < 7, initAt m ∈ sessionBytes := by decide
  exact hall n (Nat.lt_succ_of_le h)

/-- What a point sends stays in the list when `txb` stays as it is or takes a byte of the list. -/
theorem pointSends_of_txb {p : Point} {s t : State} (ht : t.txb = s.txb ∨ t.txb ∈ sessionBytes) (h : pointSends p s) :
    pointSends p t := by
  rcases ht with ht | ht
  · unfold pointSends at *
    rw [ht]
    exact h
  · cases p with
    | a0 b | s0 b => exact h
    | s1 | s2 | s3 | s4 | s5 | s6 | s7 | s8 | s9 | s10 | s11 | s12 | s13 | s14 => exact ht
    | _ => trivial

/-- The session's own points send nothing: they call an exchange, which does. -/
theorem pointSends_of_session {p : Point} (h : operationOf p = .begin_ ∨ operationOf p = .update) (s : State) :
    pointSends p s := by
  cases p with
  | b0 | b1 | b2 | b3 | b4 | u0 | u1 | u2 => trivial
  | _ => simp [operationOf] at h

/-! ## Where a tick can go -/

/-- Each of these points sends a byte of the list. -/
def StackSends (ps : List Point) (s : State) : Prop := ∀ p ∈ ps, pointSends p s

theorem StackSends.of_txb {ps : List Point} {s t : State} (h : StackSends ps s)
    (ht : t.txb = s.txb ∨ t.txb ∈ sessionBytes) : StackSends ps t := fun p hp => pointSends_of_txb ht (h p hp)

/-- `SessionSendsOnlyItsList` with any condition in the place of `inSession`: the list index is in range, and under the
condition the active points send bytes of the list. -/
def SendsListedIf (c : Prop) (s : State) : Prop := s.seq ≤ 6 ∧ (c → StackSends s.ctl.stack s)

theorem sessionSendsOnlyItsList_iff (s : State) : SessionSendsOnlyItsList s ↔ SendsListedIf (inSession s) s := Iff.rfl

section
variable {c : Prop} {p q : Point} {rest : List Point} {v : Int} {t : State} (hseq : t.seq ≤ 6) (hb : c → StackSends rest t)
include hseq hb

/-- The operation goes on at another of its points. -/
theorem goto_sendsListed (hq : c → pointSends q t) : SendsListedIf c (goto q rest t) :=
  ⟨hseq, fun hc => StackSends.of_txb (s := t) (List.forall_mem_cons.mpr ⟨hq hc, hb hc⟩) (.inl rfl)⟩

/-- It calls another. -/
theorem call_sendsListed (hq : c → pointSends q t) (hp : c → pointSends p t) :
    SendsListedIf c (callPoint q p rest t) :=
  ⟨hseq, fun hc => StackSends.of_txb (s := t)
    (List.forall_mem_cons.mpr ⟨hq hc, List.forall_mem_cons.mpr ⟨hp hc, hb hc⟩⟩) (.inl rfl)⟩

/-- It ends. -/
theorem returnTo_sendsListed : SendsListedIf c (returnTo rest v t) := by
  cases rest with
  | nil => exact ⟨hseq, fun _ _ hq => nomatch hq⟩
  | cons p below => exact ⟨hseq, fun hc => (hb hc).of_txb (.inl rfl)⟩

theorem returnResult_sendsListed : SendsListedIf c (returnResult rest v t) := by
  cases rest with
  | nil => exact ⟨hseq, fun _ _ hq => nomatch hq⟩
  | cons p below => exact ⟨hseq, fun hc => (hb hc).of_txb (.inl rfl)⟩

end

/-! ## Every tick -/

section
variable {c : Prop} {p : Point} {rest : List Point} {s : State} (hseq : s.seq ≤ 6) (hb : c → StackSends rest s)
  (hp : c → pointSends p s)
include hseq hb hp

/-- The action of a point: a send takes the byte it was called with, and only `begin` and `update` call an exchange, with
a byte of the list. -/
theorem runPoint_sendsListed : SendsListedIf c (runPoint p rest s) := by
  cases p <;> simp only [runPoint, abortTo_eq]
  case w1 l v =>
    split
    · exact returnResult_sendsListed hseq hb
    · split
      · exact returnResult_sendsListed hseq hb
      · exact goto_sendsListed hseq hb hp
  case s0 b => exact goto_sendsListed hseq (fun hc => (hb hc).of_txb (.inr (hp hc))) hp
  case s9 =>
    have htxb : (putSlot s).txb = s.txb ∨ (putSlot s).txb ∈ sessionBytes := .inl (putSlot_txb s)
    exact goto_sendsListed (by rw [putSlot_seq]; exact hseq) (fun hc => (hb hc).of_txb htxb)
      fun hc => pointSends_of_txb (p := .s10) htxb (hp hc)
  case s12 => split; exacts [returnResult_sendsListed hseq hb, goto_sendsListed hseq hb hp]
  case v5 =>
    rcases takeSlot_frame (sampleLine .data s).1 (sampleLine .data s).2 with ⟨a, o, hv⟩ | ⟨code, hv⟩ <;> rw [hv]
    · dsimp only
      split <;> exact goto_sendsListed hseq hb hp
    · exact returnResult_sendsListed hseq hb
  case s14 | v6 => exact returnResult_sendsListed hseq hb
  case b0 => exact goto_sendsListed (Nat.zero_le 6) hb hp
  case b1 => exact call_sendsListed hseq hb (fun _ => initAt_mem_sessionBytes hseq) hp
  case b2 => split; exacts [call_sendsListed hseq hb hp hp, goto_sendsListed hseq hb hp]
  case b3 =>
    split
    · next hnext => exact goto_sendsListed (Nat.le_of_lt_succ hnext) hb hp
    · exact goto_sendsListed hseq hb hp
  case u0 =>
    have hread : Config.cmdReadData ∈ sessionBytes := by decide
    exact call_sendsListed hseq hb (fun _ => hread) hp
  case u2 => exact returnTo_sendsListed hseq hb
  case s8 | s10 | s11 | s13 => exact call_sendsListed hseq hb (fun _ => trivial) hp
  case a0 | a1 | d0 | v3 | v4 | b4 | u1 => exact call_sendsListed hseq hb hp hp
  all_goals exact goto_sendsListed hseq hb hp

/-- Taking a value sends nothing new. -/
theorem resumePoint_sendsListed (v : Int) : SendsListedIf c (resumePoint p v rest s) := by
  cases p <;> simp only [resumePoint, abortTo_eq]
  case s8 | s10 | s13 | v3 | v4 => split; exacts [goto_sendsListed hseq hb hp, returnResult_sendsListed hseq hb]
  case s11 =>
    split
    · split <;> exact goto_sendsListed hseq hb hp
    · exact returnResult_sendsListed hseq hb
  case a0 => split; exacts [returnResult_sendsListed hseq hb, goto_sendsListed hseq hb fun _ => trivial]
  case a1 => split <;> exact returnResult_sendsListed hseq hb
  case d0 | b4 => exact returnResult_sendsListed hseq hb
  case b1 => split; exacts [goto_sendsListed hseq hb hp, returnResult_sendsListed hseq hb]
  case u1 =>
    have hstore : (storeReport s.k v s).seq ≤ 6 := by rw [storeReport_seq]; exact hseq
    have hbelow : c → StackSends rest (storeReport s.k v s) := fun hc => (hb hc).of_txb (.inl (storeReport_txb _ _ _))
    split <;> exact goto_sendsListed hstore hbelow hp
  all_goals exact goto_sendsListed hseq hb hp

end

theorem tick_sendsListed {c : Prop} {s : State} (h : SendsListedIf c s) : SendsListedIf c (tick s) := by
  cases hs : s.ctl.stack with
  | nil => rw [tick_idle hs]; exact h
  | cons p rest =>
    obtain ⟨hseq, hstack⟩ := h
    rw [hs] at hstack
    have hp : c → pointSends p s := fun hc => hstack hc p (.head _)
    have hb : c → StackSends rest s := fun hc q hq => hstack hc q (.tail _ hq)
    unfold tick
    rw [hs]
    cases s.ctl.ret with
    | none => exact runPoint_sendsListed hseq hb hp
    | some v => exact resumePoint_sendsListed hseq hb hp v

/-! ## The caller's operation -/

/-- A move of the control state leaves the caller's operation, the outermost one, what it is, or ends it. -/
theorem ControlMove.outermost {p q : Point} {rest : List Point} {c : Control} (hmove : ControlMove p rest c)
    (h : c.stack.getLast? = some q) : ∃ r, (p :: rest).getLast? = some r ∧ operationOf r = operationOf q := by
  cases hmove with
  | goto q' hop =>
    cases rest with
    | nil => cases h; exact ⟨p, rfl, hop.symm⟩
    | cons r below => exact ⟨q, by rw [List.getLast?_cons_cons] at h ⊢; exact h, rfl⟩
  | call c hc => exact ⟨q, by rw [List.getLast?_cons_cons] at h; exact h, rfl⟩
  | ret v hrest =>
    cases rest with
    | nil => exact absurd rfl hrest
    | cons r below => exact ⟨q, by rw [List.getLast?_cons_cons]; exact h, rfl⟩
  | idle => cases h

/-- A tick begins no session. -/
theorem inSession_of_tick {s : State} (h : inSession (tick s)) : inSession s := by
  cases hs : s.ctl.stack with
  | nil => rw [tick_idle hs] at h; exact h
  | cons p rest =>
    obtain ⟨q, hlast, hop⟩ := h
    obtain ⟨r, hr, hsame⟩ := (tick_move hs).outermost hlast
    exact ⟨r, hs ▸ hr, hsame ▸ hop⟩

theorem tick_sessionList {s : State} (h : SessionSendsOnlyItsList s) : SessionSendsOnlyItsList (tick s) := by
  obtain ⟨hseq, hstack⟩ := tick_sendsListed ((sessionSendsOnlyItsList_iff s).mp h)
  exact ⟨hseq, fun hin => hstack (inSession_of_tick hin)⟩

/-! ## The list index in an instruction -/

theorem beginFrom_seq {ns : List Nat} (hns : ∀ n ∈ ns, n ≤ 6) {s : State} (h : s.seq ≤ 6) :
    (beginFrom ns s).2.seq ≤ 6 := by
  induction ns generalizing s with
  | nil => rw [beginFrom, update_seq]; exact h
  | cons n rest ih =>
    obtain ⟨hn, hrest⟩ := List.forall_mem_cons.mp hns
    have hx := (exchangeKeeps_seq n).exchange (initAt n) (payloadAt n) { s with seq := n } rfl
    unfold beginFrom
    dsimp only
    split
    · exact ih hrest (hx.trans_le hn)
    · exact hx.trans_le hn

/-- Every instruction but `BEGIN` leaves the list index as it is. -/
theorem exec_seq {i : Instr} {s t : State} (h : exec i s = .next t) : t.seq = s.seq ∨ i = .opBegin := by
  have hform := exec_form i s
  rw [h] at hform
  cases hform with
  | send _ b a => exact .inl (sendByte_same b (present a s)).1.seq
  | receive _ a => exact .inl (receiveByte_same (present a s)).1.seq
  | exchangeByte => exact .inl ((exchangeKeeps_seq s.seq).exchangeByte _ s rfl)
  | exchange => exact .inl ((exchangeKeeps_seq s.seq).exchange _ _ s rfl)
  | firstReport | secondReport | lastReport => exact .inl (reportRead_seq _ (present _ s))
  | update => exact .inl (update_seq s)
  | begin_ => exact .inr rfl
  | release => exact .inl (releaseLine_seq _ s)
  | drive => exact .inl (driveLine_seq _ _ s)
  | wait => exact .inl (by rw [finish_seq, waitForLevel_frame])
  | nothing | delay | sample => exact .inl rfl

theorem exec_seq_le {i : Instr} {s t : State} (h : exec i s = .next t) (hs : s.seq ≤ 6) : t.seq ≤ 6 := by
  rcases exec_seq h with hseq | rfl
  · rw [hseq]; exact hs
  · rw [exec_opBegin] at h
    cases h
    exact beginFrom_seq (ns := initSteps) (by decide) hs

/-! ## Every step -/

/-- An idle block is in no session. -/
theorem sessionList_idle {s : State} (hseq : s.seq ≤ 6) (h : s.ctl.stack = []) : SessionSendsOnlyItsList s :=
  ⟨hseq, fun _ => by rw [h]; exact fun _ hp => nomatch hp⟩

/-- Settles O57: a tick sends what its active point was called with (`tick_sendsListed`) and begins no session; a session
starts at a point that sends nothing; after a reset and an instruction the block is idle. -/
theorem everyStepKeepsTheSessionList : Obligations.EveryStepKeepsTheSessionList := by
  intro s t h hstep
  rcases step_cases hstep with ⟨rest, rfl⟩ | ⟨rest, rfl⟩ | ⟨rest, i, hidle, hexec⟩ | ⟨rest, i, p, -, -, rfl⟩
  · exact tick_sessionList (s := arrived rest s) h
  · exact sessionList_idle (Nat.zero_le 6) rfl
  · exact sessionList_idle (exec_seq_le hexec h.1) (by rw [(exec_keepsControl hexec).ctl]; exact hidle)
  · refine ⟨h.1, fun ⟨q, hlast, hop⟩ => ?_⟩
    cases hlast
    exact List.forall_mem_cons.mpr ⟨pointSends_of_session hop _, fun _ hq => nomatch hq⟩

end Sys2Proof.Machine
end

section
/-! PROOFS. Command bytes and the response code as items (43_commands.md R150 to R164): the commands the block sends with
their payload, the ones it never sends as a caller's exchange, ACK as its receive. -/

namespace Sys2Proof.Machine

/-! ## The response code -/

/-- Settles O25: the receive of the frame of 0xFA, clocked at once (`receiveByte_frame`). -/
theorem ackIsReceivedAsItsByte : Obligations.AckIsReceivedAsItsByte := by
  intro s
  have hexec : exec .rspAck s = answer (receiveByte (present (byteAnswers 0 Config.ackCode) s)) := rfl
  rw [hexec, receiveByte_frame (Nat.zero_le _) (present_device _ _)]
  rfl

/-! ## Commands the block never sends -/

/-- Settles O29: each of the nine is the exchange of its byte, whose whole next state is O27's; the frame is the one that a
send puts on `DATA`. -/
theorem inertCommandsAreOpaqueBytes : Obligations.InertCommandsAreOpaqueBytes := by
  intro s lag a b rest i frame hmem hd hlag
  have hcommand : exec i s = exec (.opWra b) s ∧ txFrame b = frame := by
    simp only [List.mem_cons, Prod.mk.injEq, List.not_mem_nil, or_false] at hmem
    rcases hmem with ⟨rfl, rfl, rfl⟩ | ⟨rfl, rfl, rfl⟩ | ⟨rfl, rfl, rfl⟩ | ⟨rfl, rfl, rfl⟩ | ⟨rfl, rfl, rfl⟩ |
      ⟨rfl, rfl, rfl⟩ | ⟨rfl, rfl, rfl⟩ | ⟨rfl, rfl, rfl⟩ | ⟨rfl, rfl, rfl⟩ <;> exact ⟨rfl, rfl⟩
  obtain ⟨hexec, rfl⟩ := hcommand
  rw [hexec]
  exact ⟨writeAndReadAckReturnsTheReply s b a lag rest hd hlag, dataLine_sendTrace lag b⟩

/-! ## Commands the block sends -/

/-- Of the reply bytes only 0xFA is an acknowledgment (42_device_session.md R132). -/
theorem isAck_byte {a : Byte} : isAck (a.toNat : Int) = true ↔ a = 0xFA :=
  isAck_iff.trans ⟨fun h => BitVec.eq_of_toNat_eq (Int.ofNat.inj h), fun h => by rw [h]; rfl⟩

theorem exchange_acked {b : Byte} {n : Nat} {s : State} (h : isAck (writeAndReadAck b s).1 = true) :
    exchange b n s = ((writeAndReadAck b s).1, payloadReads n { (writeAndReadAck b s).2 with k := 0 }) := if_pos h

theorem exchange_refused {b : Byte} {n : Nat} {s : State} (h : ¬ isAck (writeAndReadAck b s).1 = true) :
    exchange b n s = writeAndReadAck b s := if_neg h

section
variable {lag : Nat} (hlag : lag ≤ Config.waitCeiling) {rest : List Pulls}
include hlag

/-- Payload reads after an exchange that has worked: they count in `k` and leave the lines as they are; of the other
registers they write those of a receive only (R133). -/
theorem payloadReads_clocked (bs : List Byte) {s : State} (hc : s.clock = drivenPin false) (hdata : s.data = releasedPin)
    (hd : s.device = bytesAnswers lag bs ++ rest) :
    ∃ i acc ones count es, payloadReads bs.length s =
      { s with
        i := i, acc := acc, ones := ones, count := count, k := s.k + bs.length, device := rest,
        trace := s.trace ++ es } ∧ dataLine es = List.replicate bs.length true := by
  induction bs generalizing s with
  | nil =>
    have hrest : s.device = rest := hd
    exact ⟨s.i, s.acc, s.ones, s.count, [], by simp [payloadReads, ← hrest], rfl⟩
  | cons b bs ih =>
    have hread := receiveByte_frame hlag (hd.trans (bytesAnswers_cons lag b bs rest))
    obtain ⟨i, acc, ones, count, es, hreads, hline⟩ :=
      ih (s := { (receiveByte s).2 with k := (receiveByte s).2.k + 1 }) (by rw [hread]) (by rw [hread]; rfl)
        (by rw [hread]; rfl)
    refine ⟨i, acc, ones, count, recvTrace lag b ++ es, ?_, ?_⟩
    · rw [List.length_cons, payloadReads, readByte_eq]
      dsimp only
      rw [hreads, hread]
      simp [received, hc, hdata, Nat.add_assoc, Nat.add_comm 1]
    · rw [dataLine_append, hline, dataLine_recvTrace]
      rfl

end

/-- Settles O28: each of the five is the exchange of its byte with the payload length of its rule; acknowledged, it goes on
to its payload reads (`payloadReads_clocked`), and answered with another byte it ends with the reply. -/
theorem sentCommandsReadTheirPayload : Obligations.SentCommandsReadTheirPayload := by
  intro s lag a payload rest i b frame hmem hd hlag
  have hcommand : exec i s = answer (exchange b payload.length s) ∧ txFrame b = frame := by
    simp only [List.mem_cons, Prod.mk.injEq, List.not_mem_nil, or_false] at hmem
    rcases hmem with ⟨rfl, rfl, rfl, hlen⟩ | ⟨rfl, rfl, rfl, hlen⟩ | ⟨rfl, rfl, rfl, hlen⟩ | ⟨rfl, rfl, rfl, hlen⟩ |
      ⟨rfl, rfl, rfl, hlen⟩ <;> rw [hlen] <;> exact ⟨rfl, rfl⟩
  obtain ⟨hexec, rfl⟩ := hcommand
  have hwra := writeAndReadAck_clocked hlag b (hd.trans (exchAnswers_append lag a payload rest))
  have hline : dataLine (sendTrace lag b ++ recvTrace lag a) = (true :: txFrame b) ++ [true] := by
    rw [dataLine_append, dataLine_sendTrace, dataLine_recvTrace]
  rw [hexec]
  by_cases ha : a = 0xFA
  · have hack : isAck (writeAndReadAck b s).1 = true := by rw [hwra]; exact isAck_byte.mpr ha
    obtain ⟨j, acc, ones, count, es, hreads, hpayload⟩ :=
      payloadReads_clocked hlag payload (s := { (writeAndReadAck b s).2 with k := 0 }) (by rw [hwra]) (by rw [hwra])
        (by rw [hwra])
    rw [exchange_acked hack, hreads, hwra]
    refine ⟨_, sendTrace lag b ++ recvTrace lag a ++ es, rfl, ?_, rfl, rfl, rfl, rfl, rfl, rfl, rfl, rfl, rfl, rfl, rfl,
      rfl, rfl, fun _ => ⟨rfl, Nat.zero_add _, ?_⟩, fun hne => absurd ha hne⟩
    · simp
    · rw [dataLine_append, hline, hpayload, List.append_assoc, List.replicate_succ]
      rfl
  · have hrefused : ¬ isAck (writeAndReadAck b s).1 = true := by
      rw [hwra]; exact fun h => ha (isAck_byte.mp h)
    rw [exchange_refused hrefused, hwra]
    exact ⟨_, sendTrace lag b ++ recvTrace lag a, rfl, List.append_assoc _ _ _, rfl, rfl, rfl, rfl, rfl, rfl, rfl, rfl, rfl,
      rfl, rfl, rfl, rfl, fun h => absurd h ha, fun _ => ⟨rfl, rfl, hline⟩⟩

end Sys2Proof.Machine
end

section
/-! PROOFS. The exits of the byte operations (60_exceptions.md R173, R186): how each part ends, going on or aborted, with
the lines it leaves; from them the codes each operation can return. -/

namespace Sys2Proof.Machine

/-! ## How a part of an operation ends -/

/-- A part of an operation goes on in a state of `P`, or aborts with a code and a state of `Q`. -/
def Progress.Ends (P : State → Prop) (Q : Int → State → Prop) : Progress → Prop
  | .going s => P s
  | .aborted code s => Q code s

section
variable {P R : State → Prop} {Q : Int → State → Prop} {p : Progress}

theorem Progress.Ends.andThen {g : State → Progress} (hp : p.Ends P Q)
    (hg : ∀ t, p = .going t → P t → (g t).Ends R Q) : (p.andThen g).Ends R Q := by
  cases p with
  | going t => exact hg t rfl hp
  | aborted c t => exact hp

theorem Progress.Ends.toResult {value : State → Int} (hp : p.Ends P Q) (hv : ∀ t, P t → Q (value t) t) :
    Q (p.toResult value).1 (p.toResult value).2 := by
  cases p with
  | going t => exact hv t hp
  | aborted c t => exact hp

theorem waitOr_ends {l : Line} {v : Level} {code : Int} {s : State} (hgo : P (waitForLevel l v Config.waitCeiling s).2)
    (habort : Q code (waitForLevel l v Config.waitCeiling s).2) : (waitOr l v code s).Ends P Q := by
  rw [waitOr_eq]
  split
  · exact hgo
  · exact habort

end

/-! ## The lines before the last tests and after the end -/

/-- Both lines are released, as they are from the stop slot of a send on, and while a receive listens (R114, R117). -/
structure Listening (s : State) : Prop where
  clock : s.clock = releasedPin
  data : s.data = releasedPin

theorem Listening.wait {s : State} (h : Listening s) (v : Level) :
    Listening (waitForLevel .clock v Config.waitCeiling s).2 :=
  ⟨(waitForLevel_clock _ _ _ _).trans h.clock, (waitForLevel_data _ _ _ _).trans h.data⟩

/-- A transfer has worked: the block holds `CLOCK` at 0 and `DATA` is released (R116, R120). -/
structure ClockTaken (s : State) : Prop where
  clock : s.clock = drivenPin false
  data : s.data = releasedPin

/-! ## The exits of a send -/

/-- Before slot `n` of the bit loop: the clock is released, and the parity register counts the data bits already put on
`DATA` (R114). -/
structure Sending (b : Byte) (n : Nat) (s : State) : Prop where
  clock : s.clock = releasedPin
  txb : s.txb = b
  par : s.par = parityAfter b true (List.range (min n 8))

/-- What slot `n` of the bit loop puts on `DATA` (R114). -/
def slotPin (b : Byte) (n : Nat) : Pin :=
  if n ≤ 7 then drivenPin (bitOf b n) else if n = 8 then drivenPin (oddParity b) else releasedPin

/-- Slot `n` of the bit loop is on `DATA`. -/
structure SlotShown (b : Byte) (n : Nat) (s : State) : Prop extends Sending b (n + 1) s where
  data : s.data = slotPin b n

theorem parityAfter_range_succ (b : Byte) (p : Level) (n : Nat) :
    parityAfter b p (List.range (n + 1)) = (parityAfter b p (List.range n) ^^ bitOf b n) := by
  rw [parityAfter, List.range_succ, List.foldl_append]
  rfl

theorem putSlot_shown {b : Byte} {n : Nat} {s : State} (h : Sending b n s) :
    SlotShown b n (putSlot { s with i := n }) := by
  obtain ⟨hclock, rfl, hpar⟩ := h
  rcases Nat.lt_trichotomy n 8 with hn | rfl | hn
  · have hbit := parityAfter_range_succ s.txb true n
    rw [Nat.min_eq_left hn.le] at hpar
    rw [← hpar] at hbit
    rw [putSlot_of_data (s := { s with i := n }) (Nat.le_of_lt_succ hn)]
    exact ⟨⟨hclock, rfl, by rw [Nat.min_eq_left hn, hbit]⟩, (if_pos (Nat.le_of_lt_succ hn)).symm⟩
  · have hparity : s.par = oddParity s.txb := hpar
    rw [putSlot_of_parity (s := { s with i := 8 }) rfl]
    exact ⟨⟨hclock, rfl, hpar⟩, congrArg drivenPin hparity⟩
  · have hmin : min (n + 1) 8 = min n 8 := by omega
    rw [putSlot_of_stop (s := { s with i := n }) hn]
    exact ⟨⟨hclock, rfl, hmin ▸ hpar⟩, ((if_neg (by omega)).trans (if_neg (by omega))).symm⟩

theorem SlotShown.wait {b : Byte} {n : Nat} {s : State} (h : SlotShown b n s) (v : Level) :
    SlotShown b n (waitForLevel .clock v Config.waitCeiling s).2 := by
  rw [waitForLevel_frame]
  exact ⟨⟨h.clock, h.txb, h.par⟩, h.data⟩

/-- The exits at slot `n`, one for each of its two waits. -/
theorem SlotShown.sendExit {b : Byte} {n : Nat} {t : State} (h : SlotShown b n t) (hn : n ≤ 9) {c : Int}
    (hc : c = Config.txErrBitHigh n ∨ c = Config.txErrBitLow n) : SendExit b (finish c t) := by
  obtain ⟨⟨hclock, -, -⟩, hdata⟩ := h
  have hcases : n ≤ 7 ∨ n = 8 ∨ n = 9 := by omega
  rcases hcases with h7 | rfl | rfl
  · exact .dataBit n h7 hc hclock (hdata.trans (if_pos h7))
  · exact .parityBit hc hclock hdata
  · exact .stopBit hc hclock hdata

theorem sendSlot_ends {b : Byte} {n : Nat} (hn : n ≤ 9) {s : State} (h : Sending b n s) :
    (sendSlot n s).Ends (Sending b (n + 1)) fun c t => SendExit b (finish c t) := by
  have hhigh := (putSlot_shown h).wait true
  refine (waitOr_ends hhigh (hhigh.sendExit hn (.inl rfl))).andThen fun t _ ht => ?_
  have hlow := ht.wait false
  exact waitOr_ends hlow.toSending (hlow.sendExit hn (.inr rfl))

theorem sendSlots_ends {b : Byte} (m n : Nat) (hm : n + m ≤ 10) {s : State} (h : Sending b n s) :
    (sendSlots (List.range' n m) s).Ends (Sending b (n + m)) fun c t => SendExit b (finish c t) := by
  induction m generalizing n s with
  | zero => exact h
  | succ m ih =>
    rw [List.range'_succ, sendSlots, ← Nat.succ_add_eq_add_succ]
    exact (sendSlot_ends (by omega) h).andThen fun t _ ht => ih (n + 1) (by omega) ht

/-- The exits of the ack check and the end (R116). -/
theorem ackCheck_ends (b : Byte) {s : State} (h : Listening s) :
    (ackCheck s).Ends ClockTaken fun c t => SendExit b (finish c t) := by
  by_cases hr : (sampleLine .data s).1 = true
  · rw [ackCheck_refused hr]
    exact .noAck rfl h.clock h.data
  · have hwait := Listening.wait (s := (sampleLine .data s).2) ⟨h.clock, h.data⟩ true
    rw [ackCheck_acked hr]
    exact (waitOr_ends hwait (.endClk rfl hwait.clock hwait.data)).andThen fun t _ ht => ⟨rfl, ht.data⟩

/-- Every exit of a send is a row of the table of R186. -/
theorem sendByte_exit (b : Byte) (s : State) : SendExit b (finish (sendByte b s).1 (sendByte b s).2) := by
  have hwait := waitForLevel_frame .clock false Config.waitCeiling (requestToSend b s)
  have hfirst : (waitOr .clock false Config.txErrClkFall (requestToSend b s)).Ends
      (fun t => Sending b 0 { t with par := true }) fun c t => SendExit b (finish c t) :=
    waitOr_ends (by rw [hwait]; exact ⟨rfl, rfl, rfl⟩) (by rw [hwait]; exact .clkFall rfl rfl rfl)
  have hsplit : txSlots = List.range' 0 10 := rfl
  refine Progress.Ends.toResult (P := ClockTaken) (Q := fun c t => SendExit b (finish c t))
    (hfirst.andThen fun t _ ht => ?_) fun t ht => .ok rfl ht.clock ht.data
  rw [hsplit]
  exact (sendSlots_ends 10 0 (Nat.le_refl _) ht).andThen fun u hu hsent =>
    ackCheck_ends b ⟨hsent.clock, sendSlots_going_data hu⟩

/-! ## The exits of a receive -/

theorem takeSlot_ends (d : Level) {s : State} (h : Listening s) :
    (takeSlot d s).Ends Listening fun c t => RecvExit (finish c t) := by
  rcases slotVerdict_cases s.i d s.acc s.ones with ⟨c, hc, hv⟩ | hv | ⟨-, -, hv⟩
  · rw [takeSlot_error hv]
    simp only [List.mem_cons, List.not_mem_nil, or_false] at hc
    rcases hc with rfl | rfl | rfl
    · exact .start rfl h.clock h.data
    · exact .parity rfl h.clock h.data
    · exact .stop rfl h.clock h.data
  · rw [takeSlot_ok hv]; exact ⟨h.clock, h.data⟩
  · rw [takeSlot_ok hv]; exact ⟨h.clock, h.data⟩

theorem recvSlot_ends {n : Nat} (hn : n ≤ 10) {s : State} (h : Listening s) :
    (recvSlot n s).Ends Listening fun c t => RecvExit (finish c t) := by
  have hlow := Listening.wait (s := { s with i := n }) ⟨h.clock, h.data⟩ false
  refine (waitOr_ends hlow (.clk n hn (.inl rfl) hlow.clock hlow.data)).andThen fun t _ ht => ?_
  have hhigh := ht.wait true
  refine (waitOr_ends hhigh (.clk n hn (.inr rfl) hhigh.clock hhigh.data)).andThen fun u _ hu => ?_
  exact takeSlot_ends _ ⟨hu.clock, hu.data⟩

theorem recvSlots_ends {ns : List Nat} (hns : ∀ n ∈ ns, n ≤ 10) {s : State} (h : Listening s) :
    (recvSlots ns s).Ends Listening fun c t => RecvExit (finish c t) := by
  induction ns generalizing s with
  | nil => exact h
  | cons n rest ih =>
    obtain ⟨hn, hrest⟩ := List.forall_mem_cons.mp hns
    exact (recvSlot_ends hn h).andThen fun t _ ht => ih hrest ht

/-- Every exit of a receive is a row of the table of R186. -/
theorem receiveByte_exit (s : State) : RecvExit (finish (receiveByte s).1 (receiveByte s).2) :=
  Progress.Ends.toResult (P := ClockTaken) (Q := fun c t => RecvExit (finish c t))
    ((recvSlots_ends (ns := rxSlots) (by decide) (s := receiveStart s) ⟨rfl, rfl⟩).andThen fun _ _ ht => ⟨rfl, ht.data⟩)
    fun t ht => .byte t.acc rfl ht.clock ht.data

/-- A receive that fails leaves both lines released, one that works leaves `CLOCK` driven to 0. -/
theorem RecvExit.lines {t : State} (h : RecvExit t) : t.data = releasedPin ∧
    (t.result < 0 ∧ t.clock = releasedPin ∨ 0 ≤ t.result ∧ t.result ≤ 255 ∧ t.clock = drivenPin false) := by
  cases h with
  | byte b h hc hd =>
    have := byte_fits b
    exact ⟨hd, .inr ⟨by omega, by omega, hc⟩⟩
  | start h hc hd | parity h hc hd | stop h hc hd => exact ⟨hd, .inl ⟨by rw [h]; decide, hc⟩⟩
  | clk n hn h hc hd =>
    simp only [Config.rxErrClkLow, Config.rxErrClkHigh] at h
    exact ⟨hd, .inl ⟨by omega, hc⟩⟩

/-! ## The exits of writeAndReadAck -/

/-- The exits of `writeAndReadAck(b)`: its send has failed, its receive has failed, or the reply is returned. -/
inductive ExchangeExit (b : Byte) (s t : State) : Prop where
  | sendFailed (h : t.result = Config.wraErrSend) (hneg : (sendByte b s).1 < 0) (hc : t.clock = (sendByte b s).2.clock)
      (hd : t.data = (sendByte b s).2.data)
  | receiveFailed (h : t.result = Config.wraErrRecv) (hc : t.clock = releasedPin) (hd : t.data = releasedPin)
  | reply (h0 : 0 ≤ t.result) (h255 : t.result ≤ 255) (hc : t.clock = drivenPin false) (hd : t.data = releasedPin)

theorem writeAndReadAck_exit (b : Byte) (s : State) :
    ExchangeExit b s (finish (writeAndReadAck b s).1 (writeAndReadAck b s).2) := by
  by_cases hsend : (sendByte b s).1 < 0
  · rw [writeAndReadAck_sendFailed hsend]
    exact .sendFailed rfl hsend rfl rfl
  · have hsent := Int.not_lt.mp hsend
    obtain ⟨hdata, ⟨hneg, hclock⟩ | ⟨h0, h255, hclock⟩⟩ := (receiveByte_exit (sendByte b s).2).lines
    · rw [writeAndReadAck_receiveFailed hsent hneg]
      exact .receiveFailed rfl hclock hdata
    · rw [writeAndReadAck_received hsent h0]
      exact .reply h0 h255 hclock hdata

/-- Settles O15: every exit of a send and of a receive is a row of the table; an exchange leaves the lines of the transfer
that ended it. -/
theorem byteOperationsLeaveTheirLines : Obligations.ByteOperationsLeaveTheirLines := by
  refine fun s b => ⟨⟨_, exec_opSend b s, sendByte_exit b s⟩, ⟨_, exec_opRecv s, receiveByte_exit s⟩,
    _, exec_opWra b s, ?_⟩
  cases writeAndReadAck_exit b s with
  | sendFailed h hneg hc hd => exact .inl ⟨h, _, exec_opSend b s, hneg, hc, hd⟩
  | receiveFailed h hc hd => exact .inr (.inl ⟨h, hc, hd⟩)
  | reply h0 h255 hc hd => exact .inr (.inr ⟨h0, hc, hd⟩)

end Sys2Proof.Machine
end

section
/-! PROOFS. The values that the operations return (60_exceptions.md R170, R173), the verdict of `begin` and its control
points (R177; 42_device_session.md R131 to R135), and the aborts at a sample (60_exceptions.md R185). -/

namespace Sys2Proof.Machine

/-! ## Result codes (R170, R173) -/

/-- Settles O42: a finite list of numbers. -/
theorem failureCodesAreNegativeAndDistinct : Obligations.FailureCodesAreNegativeAndDistinct := by
  unfold Obligations.FailureCodesAreNegativeAndDistinct
  decide

theorem SendExit.code {b : Byte} {t : State} (h : SendExit b t) :
    t.result = Config.txOk ∨ t.result = Config.txErrClkFall ∨ t.result = Config.txErrAck ∨
      t.result = Config.txErrEndClk ∨
      ∃ n ≤ 9, t.result = Config.txErrBitHigh n ∨ t.result = Config.txErrBitLow n := by
  cases h with
  | ok h => exact .inl h
  | clkFall h => exact .inr (.inl h)
  | noAck h => exact .inr (.inr (.inl h))
  | endClk h => exact .inr (.inr (.inr (.inl h)))
  | dataBit n hn h => exact .inr (.inr (.inr (.inr ⟨n, by omega, h⟩)))
  | parityBit h => exact .inr (.inr (.inr (.inr ⟨8, by decide, h⟩)))
  | stopBit h => exact .inr (.inr (.inr (.inr ⟨9, by decide, h⟩)))

theorem RecvExit.code {t : State} (h : RecvExit t) :
    (0 ≤ t.result ∧ t.result ≤ 255) ∨ t.result = Config.rxErrStart ∨ t.result = Config.rxErrParity ∨
      t.result = Config.rxErrStop ∨
      ∃ n ≤ 10, t.result = Config.rxErrClkLow n ∨ t.result = Config.rxErrClkHigh n := by
  cases h with
  | byte b h => exact .inl ⟨h ▸ Int.natCast_nonneg _, h ▸ (byte_fits b).2⟩
  | start h => exact .inr (.inl h)
  | parity h => exact .inr (.inr (.inl h))
  | stop h => exact .inr (.inr (.inr (.inl h)))
  | clk n hn h => exact .inr (.inr (.inr (.inr ⟨n, hn, h⟩)))

theorem ExchangeExit.code {b : Byte} {s t : State} (h : ExchangeExit b s t) :
    (0 ≤ t.result ∧ t.result ≤ 255) ∨ t.result = Config.wraErrSend ∨ t.result = Config.wraErrRecv := by
  cases h with
  | sendFailed h => exact .inr (.inl h)
  | receiveFailed h => exact .inr (.inr h)
  | reply h0 h255 => exact .inl ⟨h0, h255⟩

/-! ## The verdict of `begin` -/

/-- How `begin` ends over the entries still to come: with `false` at one of them, the report and the event as they were, or
after the last of them with an `update` and `true`. -/
inductive BeginEnds (ns : List Nat) (s : State) (r : Int × State) : Prop where
  | refused (h : r.1 = 0) (hseq : r.2.seq ∈ ns) (hsame : SameReport s r.2)
  | accepted (h : r.1 = 1) (hseq : r.2.seq = ns.getLast?.getD s.seq) (hdecodes : DecodesReport r.2.rep r.2.ev)

theorem beginFrom_ends (ns : List Nat) (s : State) : BeginEnds ns s (beginFrom ns s) := by
  induction ns generalizing s with
  | nil => exact .accepted rfl (update_seq s) (update_decodes s)
  | cons n rest ih =>
    have hseq := (exchangeKeeps_seq n).exchange (initAt n) (payloadAt n) { s with seq := n } rfl
    have hsame := (exchangeKeeps_report s).exchange (initAt n) (payloadAt n) { s with seq := n } ⟨rfl, rfl⟩
    rw [beginFrom]
    split
    · cases ih (exchange (initAt n) (payloadAt n) { s with seq := n }).2 with
      | refused h hmem hrest => exact .refused h (List.mem_cons_of_mem n hmem) (hsame.trans hrest)
      | accepted h hlast hdecodes => exact .accepted h (by rw [hlast, hseq, List.getLast?_cons]; rfl) hdecodes
    · exact .refused rfl (List.mem_cons.mpr (.inl hseq)) hsame

/-- Settles O16: the codes of the exits of a send, of a receive and of an exchange; `begin` ends with 0 or 1; `update` keeps
what the caller has been given, and the setters keep everything. -/
theorem returnedCodesBelongToTheOperation : Obligations.ReturnedCodesBelongToTheOperation := by
  refine fun s b => ⟨⟨_, exec_opSend b s, rfl, (sendByte_exit b s).code⟩,
    ⟨_, exec_opRecv s, rfl, rfl, (receiveByte_exit s).code⟩, ⟨_, exec_opWra b s, rfl, (writeAndReadAck_exit b s).code⟩,
    ⟨_, exec_opBegin s, rfl, ?verdict⟩, fun i hi => ?silent⟩
  case verdict =>
    cases beginFrom_ends initSteps s with
    | refused h => exact .inl h
    | accepted h => exact .inr h
  case silent =>
    simp only [List.mem_cons, List.not_mem_nil, or_false] at hi
    rcases hi with rfl | rfl | rfl
    · have hkeeps := update_keepsCaller s
      exact ⟨update s, exec_opUpdate s, hkeeps.result, hkeeps.valued⟩
    · exact ⟨s, rfl, rfl, rfl⟩
    · exact ⟨s, rfl, rfl, rfl⟩

/-! ## The control points of `begin` (10_state.md R38) -/

/-- The end of an operation that returns a value: to the caller, or to the operation that called it (R32, R33). -/
theorem step_returnResult {s t : State} {rest : List Point} {v : Int} (h : step s = .next (returnResult rest v t)) :
    (rest = [] → step s = .next { t with result := v, valued := true, ctl := .idle, done := true }) ∧
      (rest ≠ [] → step s = .next { t with ctl := ⟨rest, some v⟩ }) := by
  rw [h]
  cases rest with
  | nil => exact ⟨fun _ => rfl, fun h => absurd rfl h⟩
  | cons q below => exact ⟨nofun, fun _ => rfl⟩

/-- Settles O39: the verdict by the end of the list (`beginFrom_ends`); each control point is its action. -/
theorem beginCollapsesFailuresToFalse : Obligations.BeginCollapsesFailuresToFalse := by
  refine ⟨fun s => ?verdict, fun s rest hin => ⟨step_runPoint (p := .b0) hin, ?send, ?reply, ?payload,
    fun v h => step_resumePoint (p := .b2) hin h, fun h => ?next, step_runPoint (p := .b4) hin, fun v h =>
    step_returnResult (step_resumePoint (p := .b4) hin h)⟩⟩
  case verdict =>
    refine ⟨_, exec_opBegin s, ?_⟩
    have hb3 := (beginSession_keepsCaller s).b3
    cases beginFrom_ends initSteps s with
    | refused h hmem hsame =>
      have hle : ∀ n ∈ initSteps, n ≤ 6 := by decide
      exact ⟨.inl h, hle _ hmem, fun _ => ⟨hsame.rep, hsame.ev⟩, fun h1 => absurd (h1.symm.trans h) (by decide), hb3⟩
    | accepted h hlast hdecodes =>
      exact ⟨.inr h, hlast.le, fun h0 => absurd (h0.symm.trans h) (by decide), fun _ => ⟨hdecodes, hlast⟩, hb3⟩
  case send =>
    intro b hentry h
    have hlist : ∀ p ∈ ([(0, 0xFF), (1, 0xE9), (2, 0xF6), (3, 0xE9), (4, 0xF0), (5, 0xE9), (6, 0xEB)] :
      List (Nat × Byte)), initAt p.1 = p.2 := by decide
    have hb : initAt s.seq = b := hlist _ hentry
    rw [step_runPoint hin h, ← hb]
    rfl
  case reply =>
    intro v h
    have hstep := step_resumePoint (p := .b1) hin h
    refine ⟨fun hv => ?_, fun hv => ?_⟩
    · rw [hstep, resumePoint, if_pos (isAck_iff.mpr hv)]
      rfl
    · rw [resumePoint, if_neg (mt isAck_iff.mp hv)] at hstep
      exact step_returnResult hstep
  case payload =>
    intro n hentry h
    have hlist : ∀ p ∈ ([(0, 2), (1, 3), (2, 0), (3, 3), (4, 0), (5, 3), (6, 3)] : List (Nat × Nat)),
      payloadAt p.1 = p.2 := by decide
    have hn : payloadAt s.seq = n := hlist _ hentry
    rw [step_runPoint hin h, runPoint, hn]
    exact ⟨fun hk => by rw [if_pos hk]; rfl, fun hk => by rw [if_neg (Nat.not_lt.mpr hk)]; rfl⟩
  case next =>
    have hmore : s.seq + 1 < Config.initLen ↔ s.seq < 6 := Nat.succ_lt_succ_iff
    rw [step_runPoint hin h, runPoint]
    exact ⟨fun hlt => by rw [if_pos (hmore.mpr hlt)]; rfl, fun heq => by rw [if_neg (by rw [hmore]; omega)]; rfl⟩

/-! ## The aborts at a sample (60_exceptions.md R185) -/

/-- A sample of `DATA`, released, by the level it returns. -/
theorem sampleLine_data_level {s : State} (hmode : s.data.mode = .released) {d : Level}
    (hd : d = !(s.device.headD ⟨false, false⟩).data) :
    sampleLine .data s = (d, { s with device := s.device.tail, trace := s.trace ++ [.sample .data d] }) :=
  hd ▸ sampleLine_released (l := .data) hmode

/-- The slot point aborts where the check of its sample fails (R119). -/
theorem runPoint_v5_failed {s : State} {code : Int} (rest : List Point)
    (h : slotVerdict s.i (sampleLine .data s).1 s.acc s.ones = .error code) :
    runPoint .v5 rest s = abortTo rest code (sampleLine .data s).2 := by
  rw [runPoint, takeSlot_error (s := (sampleLine .data s).2) h]

/-- Settles O44: the sample's level decides at S12, the check of the slot at V5; both abort in the state after the sample. -/
theorem failedSampleAbortsAtOnce : Obligations.FailedSampleAbortsAtOnce := by
  intro s p rest d code hin hctl hmode hd hfail
  have hsample := sampleLine_data_level hmode hd
  have habort : runPoint p rest s = abortTo rest code (sampleLine .data s).2 := by
    rcases hfail with ⟨rfl, rfl, rfl⟩ | ⟨rfl, hi, rfl, rfl⟩ | ⟨rfl, hi, hparity, rfl⟩ | ⟨rfl, hi, rfl, rfl⟩
    · exact if_pos (by rw [hsample])
    · exact runPoint_v5_failed rest (by rw [hsample, hi]; rfl)
    · exact runPoint_v5_failed rest (by rw [hsample, hi, slotVerdict_parity, hparity]; rfl)
    · exact runPoint_v5_failed rest (by rw [hsample, hi]; rfl)
  have hstep := step_runPoint hin hctl
  rw [habort, hsample, abortTo_eq] at hstep
  exact step_returnResult hstep

end Sys2Proof.Machine
end

section
/-! PROOFS. Reset, completion and the bounds of the byte operations (70_reset_and_hazards.md R201, R222;
41_byte_transport.md R126): how many waits each part of a transfer adds to the trace, and how long each is. -/

namespace Sys2Proof.Machine

/-! ## Reset and completion -/

/-- Settles O2: a step that finds a reset is `resetBlock`, whatever was going on. -/
theorem resetEndsTheOperationAndReleasesLines : Obligations.ResetEndsTheOperationAndReleasesLines := by
  intro s rest h
  have hfetch : fetch s = .moved (resetBlock rest s) := by rw [fetch, h]
  exact ⟨_, step_of_fetch_moved hfetch, rfl, rfl, rfl, rfl, rfl, rfl, rfl⟩

/-- Settles O6: an instruction is refused only as a reserved code (`exec_form`). -/
theorem everyInstructionCompletes : Obligations.EveryInstructionCompletes :=
  fun _ s h0 h6 h7 => exec_next s h0 h6 h7

/-! ## The length of a wait (40_line_transport.md R104) -/

/-- An event is no wait longer than the budget of the block's waits allows. -/
def Event.WithinBudget : Event → Prop
  | .wait _ _ _ samples paused => samples ≤ Config.maxSamples ∧ paused ≤ Config.waitCeiling * Config.tPoll
  | .release _ | .drive _ _ | .sample _ _ | .delay _ => True

theorem Event.withinBudget_of_not_wait {e : Event} (h : isWait e = false) : e.WithinBudget := by
  cases e with
  | wait => cases h
  | release | drive | sample | delay => trivial

/-- A wait that succeeds has counted to the ceiling at most, and one that fails to one above it. -/
theorem samplesTaken_le (l : Line) (v : Level) (s : State) :
    samplesTaken (waitForLevel l v Config.waitCeiling s).1 (waitForLevel l v Config.waitCeiling s).2.count ≤
      Config.maxSamples := by
  have h := pollFrom_count l v Config.waitCeiling s.device { s with count := 0 } (Nat.zero_le _)
  rw [maxSamples_eq]
  change samplesTaken (pollFrom l v Config.waitCeiling s.device { s with count := 0 }).1
    (pollFrom l v Config.waitCeiling s.device { s with count := 0 }).2.count ≤ _
  unfold samplesTaken
  split at h
  · rw [if_pos ‹_›]; exact Nat.succ_le_succ h
  · rw [if_neg ‹_›]; exact h.le

theorem waitEvent_withinBudget {l : Line} {v : Level} {ok : Bool} {count : Nat}
    (h : samplesTaken ok count ≤ Config.maxSamples) : (waitEvent l v ok count).WithinBudget :=
  ⟨h, Nat.mul_le_mul_right _ (Nat.sub_le_of_le_add h)⟩

/-! ## The waits that a part of an operation adds -/

/-- Between two traces there are at most `n` waits, each within the budget. -/
def AddsWaits (n : Nat) (before after : List Event) : Prop :=
  ∃ es, after = before ++ es ∧ (waitsIn es).length ≤ n ∧ ∀ e ∈ es, e.WithinBudget

theorem AddsWaits.refl (es : List Event) : AddsWaits 0 es es := ⟨[], by simp, Nat.le_refl 0, nofun⟩

theorem AddsWaits.mono {m n : Nat} {as bs : List Event} (h : AddsWaits m as bs) (hmn : m ≤ n) : AddsWaits n as bs := by
  obtain ⟨es, hes, hlen, hbudget⟩ := h
  exact ⟨es, hes, hlen.trans hmn, hbudget⟩

theorem AddsWaits.trans {m n : Nat} {as bs cs : List Event} (h : AddsWaits m as bs) (g : AddsWaits n bs cs) :
    AddsWaits (m + n) as cs := by
  obtain ⟨xs, rfl, hxs, hxsBudget⟩ := h
  obtain ⟨ys, rfl, hys, hysBudget⟩ := g
  refine ⟨xs ++ ys, List.append_assoc _ _ _, ?_, List.forall_mem_append.mpr ⟨hxsBudget, hysBudget⟩⟩
  rw [waitsIn, List.filter_append, List.length_append]
  exact Nat.add_le_add hxs hys

/-- Events that are no waits add none. -/
theorem AddsWaits.of_no_wait {as bs es : List Event} (h : bs = as ++ es) (hes : ∀ e ∈ es, isWait e = false) :
    AddsWaits 0 as bs := by
  have hnone : waitsIn es = [] := List.filter_eq_nil_iff.mpr fun e he => Bool.not_eq_true _ ▸ hes e he
  exact ⟨es, h, by rw [hnone]; rfl, fun e he => Event.withinBudget_of_not_wait (hes e he)⟩

/-- A part that follows another adds its own waits, or none where the first has aborted. -/
theorem AddsWaits.andThen {m n : Nat} {as : List Event} {p : Progress} {g : State → Progress}
    (hp : AddsWaits m as p.state.trace) (hg : ∀ t, AddsWaits n t.trace (g t).state.trace) :
    AddsWaits (m + n) as (p.andThen g).state.trace := by
  cases p with
  | going t => exact hp.trans (hg t)
  | aborted c t => exact hp.mono (Nat.le_add_right m n)

theorem waitOr_addsWaits (l : Line) (v : Level) (code : Int) (s : State) :
    AddsWaits 1 s.trace (waitOr l v code s).state.trace := by
  rw [waitOr_state, waitForLevel_frame]
  exact ⟨_, rfl, Nat.le_refl 1, List.forall_mem_singleton.mpr (waitEvent_withinBudget (samplesTaken_le l v s))⟩

/-! ## The send: one wait, two for each slot, one (R113 to R116) -/

theorem requestToSend_addsWaits (b : Byte) (s : State) : AddsWaits 0 s.trace (requestToSend b s).trace := by
  refine .of_no_wait (es := [.release .data, .release .clock, .delay Config.tIdleSettle, .drive .clock false,
    .delay Config.tClkHold, .drive .data false, .delay Config.tBitSettle, .release .clock]) ?_ (by simp [isWait])
  simp [requestToSend]

theorem putSlot_addsWaits (s : State) : AddsWaits 0 s.trace (putSlot s).trace := by
  unfold putSlot
  split
  · exact .of_no_wait (driveLine_trace _ _ _) (by simp [isWait])
  · split
    · exact .of_no_wait (driveLine_trace _ _ _) (by simp [isWait])
    · exact .of_no_wait (es := [.release .data, .delay Config.tStopSettle]) (by simp) (by simp [isWait])

theorem sendSlot_addsWaits (n : Nat) (s : State) : AddsWaits 2 s.trace (sendSlot n s).state.trace :=
  .andThen ((putSlot_addsWaits { s with i := n }).trans (waitOr_addsWaits _ _ _ _)) (waitOr_addsWaits _ _ _)

theorem sendSlots_addsWaits (ns : List Nat) (s : State) :
    AddsWaits (2 * ns.length) s.trace (sendSlots ns s).state.trace := by
  induction ns generalizing s with
  | nil => exact .refl _
  | cons n rest ih =>
    exact ((sendSlot_addsWaits n s).andThen ih).mono (by rw [List.length_cons]; omega)

theorem ackCheck_addsWaits (s : State) : AddsWaits 1 s.trace (ackCheck s).state.trace := by
  have hsample : AddsWaits 0 s.trace (sampleLine .data s).2.trace := .of_no_wait rfl (by simp [isWait])
  by_cases hr : (sampleLine .data s).1 = true
  · rw [ackCheck_refused hr]
    exact hsample.mono (Nat.zero_le 1)
  · rw [ackCheck_acked hr]
    exact (hsample.trans (waitOr_addsWaits _ _ _ _)).andThen (n := 0) fun t =>
      .of_no_wait (driveLine_trace _ _ _) (by simp [isWait])

theorem sendByte_addsWaits (b : Byte) (s : State) : AddsWaits 22 s.trace (sendByte b s).2.trace := by
  rw [sendByte, Progress.toResult_state]
  have hfirst := (requestToSend_addsWaits b s).trans (waitOr_addsWaits .clock false Config.txErrClkFall _)
  exact hfirst.andThen fun t => (sendSlots_addsWaits txSlots { t with par := true }).andThen ackCheck_addsWaits

/-! ## The receive: two waits for each slot (R118) -/

theorem receiveStart_addsWaits (s : State) : AddsWaits 0 s.trace (receiveStart s).trace :=
  .of_no_wait (es := [.release .clock, .release .data, .delay Config.tRxSettle]) (by simp [receiveStart])
    (by simp [isWait])

theorem takeSlot_trace (d : Level) (s : State) : (takeSlot d s).state.trace = s.trace := by
  rcases takeSlot_frame d s with ⟨a, o, h⟩ | ⟨c, h⟩ <;> rw [h] <;> rfl

theorem recvSlot_addsWaits (n : Nat) (s : State) : AddsWaits 2 s.trace (recvSlot n s).state.trace := by
  refine (waitOr_addsWaits .clock false (Config.rxErrClkLow n) { s with i := n }).andThen (n := 1) fun t => ?_
  refine (waitOr_addsWaits .clock true (Config.rxErrClkHigh n) t).andThen (n := 0) fun u => ?_
  exact .of_no_wait (es := [.sample .data (look .data u).1]) (takeSlot_trace _ _) (by simp [isWait])

theorem recvSlots_addsWaits (ns : List Nat) (s : State) :
    AddsWaits (2 * ns.length) s.trace (recvSlots ns s).state.trace := by
  induction ns generalizing s with
  | nil => exact .refl _
  | cons n rest ih =>
    exact ((recvSlot_addsWaits n s).andThen ih).mono (by rw [List.length_cons]; omega)

theorem receiveByte_addsWaits (s : State) : AddsWaits 22 s.trace (receiveByte s).2.trace := by
  rw [receiveByte, Progress.toResult_state]
  have hslots := (receiveStart_addsWaits s).trans (recvSlots_addsWaits rxSlots (receiveStart s))
  exact hslots.andThen (n := 0) fun t => .of_no_wait (driveLine_trace _ _ _) (by simp [isWait])

/-! ## The obligation -/

/-- Settles O45: 1 + 2·10 + 1 waits in a send, 2·11 in a receive; the end of the caller's operation adds no event. -/
theorem byteOperationsTakeBoundedWaits : Obligations.ByteOperationsTakeBoundedWaits := by
  intro s b
  obtain ⟨xs, hxs, hxsLen, hxsBudget⟩ := sendByte_addsWaits b s
  obtain ⟨ys, hys, hysLen, hysBudget⟩ := receiveByte_addsWaits s
  exact ⟨⟨_, xs, exec_opSend b s, hxs, hxsLen, fun _ _ _ _ _ h => hxsBudget _ h⟩,
    ⟨_, ys, exec_opRecv s, hys, hysLen, fun _ _ _ _ _ h => hysBudget _ h⟩⟩

end Sys2Proof.Machine
end
